-- ==== Sys2Proof/Word.lean ====
section
/-! DEFINITION. The byte of the ring's frames and the limits of the part's unsigned arithmetic
(spec/00_scope.md sections 3.1 to 3.3, spec/09_the_telegram_ring.md R148). Quantities are natural numbers; only
what travels on the ring as bits (payload bytes, the check value, the two sixteen-bit sets) is a bit vector. -/

namespace Sys2Proof

/-- One byte of a frame (R148, R173). -/
abbrev Byte := BitVec 8

/-- A sixteen-bit set field or check value (R149, R168). -/
abbrev Word16 := BitVec 16

/-- The largest plant time, at which PT and every sum of a PT and a duration is held (section 3.1). -/
def ptMax : Nat := 4294967295

/-- The largest number of pieces a slot's on-hand can hold (Table 1-2). -/
def piecesMax : Nat := 65535

end Sys2Proof
end

