-- ==== Sys2Proof/Config.lean ====
section
/-! DEFINITION. What an implementation fixes and the free values: the sizes the manual gives the part's
collections, and opaque constants for what the manual leaves open (no body, so that no proof can lean on one). -/

namespace Sys2Proof.Config

/-- Records of the slot table (R1). -/
def slotCount : Nat := 512
/-- Routes of the zone (R37). -/
def routeCount : Nat := 8
/-- Stop entries each route stores (R38). -/
def stopStorage : Nat := 24
/-- Line stations of the vehicle echo table (R12). -/
def lineStations : Nat := 64
/-- Interrupted tour records (R132). -/
def recordCount : Nat := 4
/-- Orders the backlog holds (R79). -/
def backlogSize : Nat := 64
/-- Telegrams the forward queue holds (R157). -/
def forwardSize : Nat := 16
/-- Telegrams the emit queue holds (R157). -/
def emitSize : Nat := 32
/-- Largest payload of a frame (R148). -/
def payloadMax : Nat := 120
/-- Forwarded frames in a row, each past a waiting emitted one, before the emit head goes (R159). -/
def burstLimit : Nat := 4
/-- Reach horizon H in takts (R26). -/
def horizon : Nat := 4095
/-- Ticks of an open offer (R113). -/
def offerTicks : Nat := 100
/-- Ticks within which a store operation ends (R165, R170). -/
def storeTicks : Nat := 20

/-- FREE VALUE: the rank of a slot among the slots whose lamps are derived at the end of one event. R19 gives one
derivation per reported slot and R158 puts them at the end of the event; neither gives an order among the slots.
The first argument is the part's draw counter, so that each event has an order of its own (DESIGN CHOICE, log entry 6). -/
opaque lampRank : Nat → Nat → Nat

/-- FREE VALUE: the rank of a timer's event among the events that one tick of the oscillator brings. R125, R128 and R146
let either of two events that meet be taken first. The first argument is the part's draw counter (DESIGN CHOICE, log entry 3). -/
opaque markRank : Nat → Nat → Nat

/-- FREE VALUE: the byte a MAINT_REPLY carries for a kind (argument 0) or a request number (argument 1) that the
refused request was too short to hold (R162, R173; DESIGN CHOICE, log entry 7). -/
opaque missingRequestByte : Nat → Byte

/-- FREE VALUE: what a STATE_READ of an interrupted tour record returns after the live byte when the high byte of
"from" is neither 0 nor 1 (Table 11-10; DESIGN CHOICE, log entry 8). Arguments: the record id and "from". -/
opaque unstatedRecordRead : Nat → Nat → List Byte

end Sys2Proof.Config
end

