-- ==== Sys2Proof/Syntax.lean ====
section
/-! DEFINITION. The commands: one constructor of `Instr` for each row of spec/opcode_table.json. A command is one event the
outside brings about: the end of a telegram's frame on ring-in, the end of a transmission on ring-out, a count or
timer reaching its mark, the end of a store operation, or a reset. Operands are the fields of the telegram as Tables
11-2 to 11-6 give them, as unsigned numbers; `Sys2Proof.WellFormed` says which values the frame can carry. -/

namespace Sys2Proof

/-- The addressing of a telegram: destination and source station of its frame (R148). -/
structure Hop where
  dst : Nat
  src : Nat
  deriving DecidableEq, Repr

/-- The addressing of a maintenance request and the request number the server put in it (R148, R162). -/
structure Envelope where
  dst : Nat
  src : Nat
  number : Nat
  deriving DecidableEq, Repr

/-- A SLOT record as a TABLE_WRITE carries it (Table 11-6): unchecked codes and numbers. -/
structure SlotRecord where
  inUse : Nat
  rackStation : Nat
  position : Nat
  partTag : Nat
  route : Nat
  stop : Nat
  bins : Nat
  pieces : Nat
  pullMode : Nat
  lineStation : Nat
  modelMask : Nat
  usage : Nat
  share : Nat
  reorderPoint : Nat
  margin : Nat
  deriving DecidableEq, Repr

/-- A ROUTE record as a TABLE_WRITE carries it (Table 11-6): unchecked codes and numbers. -/
structure RouteRecord where
  timingMode : Nat
  period : Nat
  cutoffLead : Nat
  depth : Nat
  binLimit : Nat
  policy : Nat
  pickStation : Nat
  confirmCode : Nat
  silenceLimit : Nat
  stopCount : Nat
  deriving DecidableEq, Repr

/-- The commands of the part, in the order of spec/opcode_table.json. -/
inductive Instr where
  /-- A frame ends on ring-in; the bytes are those received since the end of the frame before it (R150). -/
  | ringInFrame (bytes : List Byte)
  /-- The transmission in progress on ring-out ends (R159). -/
  | transmissionEnd
  /-- A PULL of kind BIN_EMPTY ends on ring-in (R9). -/
  | binEmpty (hop : Hop) (position : Nat)
  /-- A PULL of kind BIN_COUNT(n) ends on ring-in (R10). -/
  | binCount (hop : Hop) (position n : Nat)
  /-- A PULL of kind CANCEL ends on ring-in (R11). -/
  | cancel (hop : Hop) (position : Nat)
  /-- A VEHICLE telegram ends on ring-in (R12). -/
  | vehicle (hop : Hop) (station model sequence : Nat)
  /-- A LINE telegram of kind RUNNING ends on ring-in (R100). -/
  | lineRunning (hop : Hop) (takt : Nat)
  /-- A LINE telegram of kind STOPPED ends on ring-in (R101). -/
  | lineStopped (hop : Hop)
  /-- The count of a route reaches its cutoff_lead (R46). -/
  | cutoffReached (route : Nat)
  /-- The count of a route reaches 0 (R47). -/
  | departureDue (route : Nat)
  /-- A PICK of kind PICK_START ends on ring-in (R68). -/
  | pickStart (hop : Hop) (route tour : Nat)
  /-- A PICK of kind PICK_DONE ends on ring-in (R68). -/
  | pickDone (hop : Hop) (route tour : Nat)
  /-- A PICK of kind PICK_SHORT ends on ring-in (R69). -/
  | pickShort (hop : Hop) (route tour entry : Nat)
  /-- A TRAIN_UP of kind CHECK_IN ends on ring-in (R112). -/
  | checkIn (hop : Hop) (route train capacity : Nat)
  /-- A TRAIN_UP of kind CHECK_ACCEPT ends on ring-in (R114). -/
  | checkAccept (hop : Hop) (route train offer : Nat)
  /-- The offer timer of a route reaches 0 (R115). -/
  | offerTimerExpiry (route : Nat)
  /-- A TRAIN_UP of kind SIGN_OFF ends on ring-in (R116). -/
  | signOff (hop : Hop) (route train : Nat)
  /-- A TRAIN_UP of kind PASS ends on ring-in (R119). -/
  | pass (hop : Hop) (route train marker : Nat)
  /-- A TRAIN_UP of kind DELIVERED ends on ring-in (R123). -/
  | delivered (hop : Hop) (route train tour entry : Nat)
  /-- The confirmation timer of a route's running tour reaches 0 (R122). -/
  | confirmationTimerExpiry (route : Nat)
  /-- A TRAIN_UP of kind RETURN ends on ring-in (R127). -/
  | trainReturn (hop : Hop) (route train : Nat)
  /-- A TRAIN_UP of kind FAULT ends on ring-in (R129, R130). -/
  | trainFault (hop : Hop) (route train code : Nat)
  /-- The silence timer of a route's running tour reaches 0 (R126). -/
  | silenceTimerExpiry (route : Nat)
  /-- A MAINT_REQ of kind IDENTIFY ends on ring-in (R164). -/
  | identify (env : Envelope)
  /-- A MAINT_REQ of kind COMMISSION ends on ring-in (R164). -/
  | commission (env : Envelope) (serial station server : Nat)
  /-- A MAINT_REQ of kind DECOMMISSION ends on ring-in (R165). -/
  | decommission (env : Envelope)
  /-- The erase of the setting store that a DECOMMISSION started ends (R165). -/
  | eraseCompletion
  /-- A MAINT_REQ of kind START ends on ring-in (R92, R166). -/
  | start (env : Envelope)
  /-- A MAINT_REQ of kind HALT ends on ring-in (R93, R94). -/
  | halt (env : Envelope)
  /-- A MAINT_REQ of kind TIME_SET ends on ring-in (R166). -/
  | timeSet (env : Envelope) (time : Nat)
  /-- PT reaches 4,294,967,295 by counting (R166). -/
  | ptSaturation
  /-- A TABLE_WRITE of table code SLOT ends on ring-in (R4, R5). -/
  | tableWriteSlot (env : Envelope) (index : Nat) (record : SlotRecord)
  /-- A TABLE_WRITE of table code ROUTE ends on ring-in (R40). -/
  | tableWriteRoute (env : Envelope) (index : Nat) (record : RouteRecord)
  /-- A TABLE_WRITE of table code STOPS ends on ring-in; the index holds the route and the stop (R41). -/
  | tableWriteStops (env : Envelope) (route stop offset marker : Nat)
  /-- A TABLE_WRITE of table code LINE_CONFIG ends on ring-in (R97). -/
  | tableWriteLineConfig (env : Envelope) (index pacingStation defaultTakt radioBridge : Nat)
  /-- A TABLE_WRITE of table code ALERT_MASK ends on ring-in (R169). -/
  | tableWriteAlertMask (env : Envelope) (index enables : Nat)
  /-- A TABLE_READ of table code SLOT ends on ring-in (R167). -/
  | tableReadSlot (env : Envelope) (index : Nat)
  /-- A TABLE_READ of table code ROUTE ends on ring-in (R42). -/
  | tableReadRoute (env : Envelope) (index : Nat)
  /-- A TABLE_READ of table code STOPS ends on ring-in; the index holds the route and the stop (R42). -/
  | tableReadStops (env : Envelope) (route stop : Nat)
  /-- A TABLE_READ of table code LINE_CONFIG ends on ring-in (R97). -/
  | tableReadLineConfig (env : Envelope) (index : Nat)
  /-- A TABLE_READ of table code ALERT_MASK ends on ring-in (R167). -/
  | tableReadAlertMask (env : Envelope) (index : Nat)
  /-- A STATE_READ of state code SLOT ends on ring-in (R167). -/
  | stateReadSlot (env : Envelope) (index fromField : Nat)
  /-- A STATE_READ of state code ROUTE ends on ring-in; "from" names a tour and an entry (R76). -/
  | stateReadRoute (env : Envelope) (index fromTour fromEntry : Nat)
  /-- A STATE_READ of state code BACKLOG ends on ring-in (R96). -/
  | stateReadBacklog (env : Envelope) (index fromField : Nat)
  /-- A STATE_READ of state code RECORD ends on ring-in; "from" names a part of the record (R147). -/
  | stateReadRecord (env : Envelope) (index fromPart fromEntry : Nat)
  /-- A STATE_READ of state code LINE ends on ring-in (R109). -/
  | stateReadLine (env : Envelope) (index fromField : Nat)
  /-- A STATE_READ of state code PART ends on ring-in (R167). -/
  | stateReadPart (env : Envelope) (index fromField : Nat)
  /-- A MAINT_REQ of kind ROUTE_ENABLE ends on ring-in (R50). -/
  | routeEnable (env : Envelope) (route : Nat)
  /-- A MAINT_REQ of kind ROUTE_DISABLE ends on ring-in (R51, R52). -/
  | routeDisable (env : Envelope) (route : Nat)
  /-- A MAINT_REQ of kind ROUTE_RELOAD ends on ring-in (R48, R49). -/
  | routeReload (env : Envelope) (route : Nat)
  /-- A RESOLVE with disposition DISSOLVE ends on ring-in (R139, R140). -/
  | resolveDissolve (env : Envelope) (record route tour : Nat)
  /-- A RESOLVE with disposition RESUME ends on ring-in (R139, R141). -/
  | resolveResume (env : Envelope) (record route tour : Nat)
  /-- A MAINT_REQ of kind ALERT_ACK ends on ring-in (R169). -/
  | alertAck (env : Envelope) (flags : Nat)
  /-- A MAINT_REQ of kind SAVE ends on ring-in (R170). -/
  | save (env : Envelope) (autoStart : Nat)
  /-- The store operation that a SAVE started ends (R170). -/
  | saveCompletion
  /-- A MAINT_REQ of kind RESTART ends on ring-in (R172). -/
  | restart (env : Envelope)
  /-- The transmission of the reply to a RESTART ends and the reset is taken (R160, R172). -/
  | commandReset
  /-- A MAINT_REQ of kind CAUSE_READ ends on ring-in (R171). -/
  | causeRead (env : Envelope)
  /-- A MAINT_REQ whose kind is none of the seventeen ends on ring-in (R163). -/
  | unknownKindRequest (env : Envelope) (kind : Nat)
  /-- A power-on reset (R172). -/
  | powerOn
  /-- RESET_N is driven low (R172). -/
  | resetNLow
  /-- RESET_N is released (R172). -/
  | resetNRelease
  deriving DecidableEq, Repr

end Sys2Proof
end

