-- ==== Sys2Proof/Decode.lean ====
section
/-! DEFINITION. The command that a word spells. No row of spec/opcode_table.json gives bits: the part has no command words,
and its commands arrive as telegrams, pins and events (section 1.4). The frames of the ring are read in
`Sys2Proof.Machine.Frame.parse` and `Sys2Proof.Machine.readTelegram`. -/

namespace Sys2Proof

/-- The command of a table word: none, since no row of the table gives a word (DESIGN CHOICE, log entry 9). -/
def decodeTableWord (_nbits _w : Nat) : Option Instr := none

end Sys2Proof
end

