-- ==== Sys2Proof/Machine/State.lean ====
section
/-! DEFINITION. The state of the Orvaz 4120 as plain data: every register, table, queue, timer, mode and pin the manual
gives the part, block by block (spec/00_scope.md Table 2-1), and the queue of waiting commands. -/

namespace Sys2Proof.Machine

/-! ## Reasons a step stops -/

/-- Reasons to stop with a fault. There is none: the manual gives every command an effect in every state, so no
meaning raises a fault (safe). -/
inductive Fault
  deriving DecidableEq, Repr

/-- Reasons to refuse a command. -/
inductive Refusal where
  /-- Raised by `exec`'s arm of a command that has no meaning yet, and by nothing else (safe). -/
  | notModelled (mnemonic : String)
  deriving DecidableEq, Repr

/-! ## Slot Unit -/

/-- pull_mode (Table 1-1). -/
inductive PullMode where
  | signalled
  | counted
  deriving DecidableEq, Repr

/-- LAMP telegram kinds (Table 1-3): four lasting states and two one-shot signals. -/
inductive LampKind where
  | off
  | ordered
  | late
  | short
  | cancelRefused
  | notTaken
  deriving DecidableEq, Repr

/-- The static fields of a slot record (Table 1-1). -/
structure SlotConfig where
  inUse : Bool
  rackStation : Nat
  position : Nat
  partTag : Nat
  route : Nat
  stop : Nat
  /-- B, rack capacity in bins. -/
  bins : Nat
  /-- Q, pieces in one full bin. -/
  pieces : Nat
  pullMode : PullMode
  lineStation : Nat
  /-- Bit k stands for model code k (DESIGN CHOICE, log entry 24). -/
  modelMask : Word16
  /-- u, pieces used by one using vehicle. -/
  usage : Nat
  /-- m, share of using vehicles in 256ths. -/
  share : Nat
  reorderPoint : Nat
  /-- g, safety margin in ticks. -/
  margin : Nat
  deriving DecidableEq, Repr

/-- The static fields of a record of no image: zero, not in use (R3). -/
def SlotConfig.blank : SlotConfig :=
  { inUse := false, rackStation := 0, position := 0, partTag := 0, route := 0, stop := 0, bins := 0, pieces := 0,
    pullMode := .signalled, lineStation := 0, modelMask := 0, usage := 0, share := 0, reorderPoint := 0, margin := 0 }

/-- A slot record: static and dynamic fields (Tables 1-1 and 1-2). -/
structure Slot where
  config : SlotConfig
  /-- P, estimated pieces in the rack. -/
  onHand : Nat
  /-- F, full bins in the rack. -/
  fullBins : Nat
  /-- O, live orders of the slot. -/
  onOrder : Nat
  /-- SHORT. -/
  shortFlag : Bool
  /-- LOST_ORDER. -/
  lostOrder : Bool
  /-- NOT_TAKEN. -/
  notTaken : Bool
  /-- The last lamp state accepted for transmission. -/
  lamp : LampKind
  deriving DecidableEq, Repr

/-- A record with its dynamic fields at their starting values (R3, R5). -/
def Slot.fresh (c : SlotConfig) : Slot :=
  { config := c, onHand := c.bins * c.pieces, fullBins := c.bins, onOrder := 0, shortFlag := false, lostOrder := false,
    notTaken := false, lamp := .off }

/-! ## Planner -/

/-- origin of a backlog order (Table 5-1). -/
inductive Origin where
  | pull
  | count
  | resync
  | pickShort
  | returned
  | dissolved
  | halted
  deriving DecidableEq, Repr

/-- A backlog order (Table 5-1). -/
structure Order where
  id : Nat
  /-- creation count. -/
  creation : Nat
  slot : Nat
  due : Nat
  urgent : Bool
  origin : Origin
  /-- created time. -/
  created : Nat
  deriving DecidableEq, Repr

/-! ## Route Unit -/

/-- timing_mode (Table 3-1). -/
inductive TimingMode where
  | fixed
  | takt
  deriving DecidableEq, Repr

/-- policy (Table 3-1). -/
inductive Policy where
  | earliest
  | latestFit
  deriving DecidableEq, Repr

/-- The static fields of a route record (Table 3-1). -/
structure RouteConfig where
  timing : TimingMode
  period : Nat
  cutoffLead : Nat
  depth : Nat
  binLimit : Nat
  policy : Policy
  pickStation : Nat
  confirmCode : Nat
  silenceLimit : Nat
  stopCount : Nat
  deriving DecidableEq, Repr

/-- What a record that is not configured reads back as: every static field zero (R37). -/
def RouteConfig.zero : RouteConfig :=
  { timing := .fixed, period := 0, cutoffLead := 0, depth := 0, binLimit := 0, policy := .earliest, pickStation := 0,
    confirmCode := 0, silenceLimit := 0, stopCount := 0 }

/-- A stored stop entry; an entry never written holds offset 0 and no marker (R38). -/
structure StopEntry where
  offset : Nat
  marker : Option Nat
  deriving DecidableEq, Repr

/-- An item of a stop list: stop number, offset and marker (R38, R134). -/
structure StopItem where
  stop : Nat
  offset : Nat
  marker : Nat
  deriving DecidableEq, Repr

/-- Tour states (Table 4-2). -/
inductive TourState where
  | planned
  | frozen
  | running
  deriving DecidableEq, Repr

/-- pick_state (Table 4-1). -/
inductive PickState where
  | ready
  | picking
  | picked
  deriving DecidableEq, Repr

/-- Entry states (Table 4-4). -/
inductive EntryState where
  | waiting
  | loaded
  | atStop
  | skipped
  | confirmed
  | presumed
  | confirmedLate
  deriving DecidableEq, Repr

/-- An entry record (Table 4-3). -/
structure Entry where
  orderId : Nat
  created : Nat
  creation : Nat
  slot : Nat
  stop : Nat
  due : Nat
  urgent : Bool
  late : Bool
  /-- entry number; absent before the freeze. -/
  number : Option Nat
  state : EntryState
  deriving DecidableEq, Repr

/-- What a resumed tour carries from its record: saved stop list and fault stop (Table 4-1). -/
structure ResumePlan where
  stops : List StopItem
  faultStop : Nat
  deriving DecidableEq, Repr

/-- A tour record (Table 4-1). The field `resumed` of the manual is `plan.isSome`. -/
structure Tour where
  number : Nat
  state : TourState
  plannedDeparture : Nat
  held : Bool
  slips : Nat
  pickState : Option PickState
  entries : List Entry
  /-- current_stop: absent before departure, −1 before the first marker. -/
  currentStop : Option Int
  plan : Option ResumePlan
  /-- confirmation window in ticks; `none` when off or not running. -/
  window : Option Nat
  /-- silence limit in ticks; `none` when off or not running. -/
  limit : Option Nat
  resumeCount : Nat
  deriving DecidableEq, Repr

/-- A route record with its timer and its tour board (Tables 3-1 and 3-2, R38, R55). -/
structure Route where
  /-- The static fields; `none` while the record is not configured (R37). -/
  config : Option RouteConfig
  stops : Vector StopEntry 24
  enabled : Bool
  count : Nat
  nextTour : Nat
  /-- The waiting tours in departure order, the head first (R55). -/
  waiting : List Tour
  /-- The RUNNING tour (R55). -/
  running : Option Tour
  deriving DecidableEq, Repr

/-- A route record of no image (R39). -/
def Route.blank : Route :=
  { config := none, stops := Vector.replicate 24 { offset := 0, marker := none }, enabled := false, count := 0,
    nextTour := 1, waiting := [], running := none }

/-! ## Train Unit -/

/-- train state (Table 7-1). -/
inductive TrainState where
  | ready
  | onTour
  deriving DecidableEq, Repr

/-- Binding state with the fields present in it (Table 7-1): train id, capacity, offer timer, train state. -/
inductive Binding where
  | unbound
  | offered (train capacity ticksLeft : Nat)
  | bound (train capacity : Nat) (state : TrainState)
  deriving DecidableEq, Repr

/-- What TU holds for one route: the binding record (R110) and the timers of the running tour (R122, R126). -/
structure TrainUnit where
  binding : Binding
  offerNumber : Nat
  /-- Ticks left of the confirmation timer while it runs. -/
  confirmTimer : Option Nat
  /-- Ticks left of the silence timer while it runs. -/
  silenceTimer : Option Nat
  deriving DecidableEq, Repr

/-- The binding record after a reset (R110). -/
def TrainUnit.blank : TrainUnit :=
  { binding := .unbound, offerNumber := 0, confirmTimer := none, silenceTimer := none }

/-! ## Interrupted Tour Store -/

/-- A pending entry of an interrupted tour record (R135). -/
structure Pending where
  number : Nat
  orderId : Nat
  creation : Nat
  created : Nat
  slot : Nat
  stop : Nat
  due : Nat
  urgent : Bool
  late : Bool
  deriving DecidableEq, Repr

/-- cause of an interruption, with the fault code of a FAULT (Table 8-1). -/
inductive Cause where
  | reported (code : Nat)
  | silent
  deriving DecidableEq, Repr

/-- A live interrupted tour record (Table 8-1). -/
structure Record where
  route : Nat
  tour : Nat
  train : Nat
  cause : Cause
  /-- interruption time. -/
  time : Nat
  faultStop : Nat
  stops : List StopItem
  window : Option Nat
  limit : Option Nat
  pending : List Pending
  resumeCount : Nat
  deriving DecidableEq, Repr

/-! ## Line Monitor -/

/-- The line configuration (Table 6-1). -/
structure LineConfig where
  pacingStation : Nat
  defaultTakt : Nat
  radioBridge : Nat
  deriving DecidableEq, Repr

/-- The line configuration without a valid image (R97). -/
def LineConfig.default : LineConfig := { pacingStation := 0, defaultTakt := 600, radioBridge := 0 }

/-- Line state; stopped_since is present while STOPPED (Table 6-2). -/
inductive LineState where
  | unknown
  | running
  | stopped (since : Nat)
  deriving DecidableEq, Repr

/-! ## Maintenance Unit -/

/-- Modes (Table 2-2). -/
inductive Mode where
  | uncommissioned
  | setup
  | run
  deriving DecidableEq, Repr

/-- cause of the last reset (R171). -/
inductive ResetCause where
  | power
  | pin
  | command
  deriving DecidableEq, Repr

/-- The image the setting store keeps (R170). -/
structure Image where
  station : Nat
  server : Nat
  autoStart : Bool
  slots : Vector SlotConfig 512
  /-- For each configured route its static fields, stop entries and enabled state. -/
  routes : Vector (Option (RouteConfig × Vector StopEntry 24 × Bool)) 8
  line : LineConfig
  mask : Word16
  deriving DecidableEq, Repr

/-- What start-up can find in the setting store (R170, R172). -/
inductive Store where
  /-- No image. -/
  | empty
  /-- A start mark without completion marker: an operation runs or was interrupted. -/
  | started
  /-- An image with its completion marker. -/
  | valid (image : Image)
  deriving DecidableEq, Repr

/-- What a running store operation will do when it completes (R165, R170). -/
inductive StoreWork where
  | erase
  | write (image : Image)
  deriving DecidableEq, Repr

/-- A running store operation: its work, where its deferred reply goes, and the ticks it has run (R162). -/
structure StoreOp where
  work : StoreWork
  replyTo : Nat
  number : Nat
  elapsed : Nat
  deriving DecidableEq, Repr

/-! ## Link Unit -/

/-- A frame; its length field is the payload's length (R148). -/
structure Frame where
  cls : Nat
  dst : Nat
  src : Nat
  payload : List Byte
  check : Word16
  deriving DecidableEq, Repr

/-- The frame in transmission on ring-out, and whether it came from the emit queue (R159, R160). -/
structure Sending where
  frame : Frame
  own : Bool
  deriving DecidableEq, Repr

/-! ## The part -/

/-- The state of the part, and the commands waiting for it. -/
structure State where
  /-- LU: the forward queue (R157). -/
  forwardQueue : List Frame
  /-- LU: the emit queue (R157). -/
  emitQueue : List Frame
  /-- LU: the frame in transmission on ring-out; `none` while ring-out is idle (R159). -/
  ringOut : Option Sending
  /-- LU: the arbiter's consecutive-forward count (R159). -/
  burst : Nat
  /-- LU: the former station number (R151). -/
  formerStation : Option Nat
  /-- SU: the slot table (R1). -/
  slots : Vector Slot 512
  /-- SU: the vehicle echo table (R12). -/
  echo : Vector (Option Nat) 64
  /-- SU: the slots reported in the present event, whose lamps are derived at its end; empty between events (R19; log
  entry 19). -/
  reported : List Nat
  /-- PL: the order backlog (R79). -/
  backlog : List Order
  /-- PL: the order id counter (R82). -/
  nextOrderId : Nat
  /-- PL: the creation count (R82). -/
  creationCount : Nat
  /-- RU: the route table, the route timers and the tour boards (R37, R39, R55). -/
  routes : Vector Route 8
  /-- TU: the binding records and the timers of running tours (R110). -/
  trains : Vector TrainUnit 8
  /-- ITS: the interrupted tour records; `none` is a free record (R132). -/
  records : Vector (Option Record) 4
  /-- LM: the line configuration (R97). -/
  lineConfig : LineConfig
  /-- LM: the line state with stopped_since (R98). -/
  lineState : LineState
  /-- LM: T, the takt length (R98). -/
  takt : Nat
  /-- LM: whether T was reported by the line controller since the last reset or DECOMMISSION (R97, R109). -/
  taktReported : Bool
  /-- MU: the mode (Table 2-2). -/
  mode : Mode
  /-- MU: the unit serial, fixed in the part (R164). -/
  serial : Nat
  /-- MU: the station number of the commission record (R164). -/
  station : Option Nat
  /-- MU: the server station of the commission record (R164). -/
  server : Option Nat
  /-- MU: plant time (section 3.1, R166). -/
  pt : Nat
  /-- MU: TIME_UNSET (R166). -/
  timeUnset : Bool
  /-- MU: the alert flags, BACKLOG_FULL in bit 0 (R168, Table 11-2). -/
  flags : Word16
  /-- MU: the alert mask, laid out as the flags (R168). -/
  mask : Word16
  /-- MU: cause of the reset-cause record (R171). -/
  cause : ResetCause
  /-- MU: STORE_INTERRUPTED of the reset-cause record (R171). -/
  storeInterrupted : Bool
  /-- MU: the setting store (R170). -/
  store : Store
  /-- MU: the running store operation (R165, R170). -/
  storeOp : Option StoreOp
  /-- Pin RESET_N is low (Table 11-9, R172). -/
  resetLow : Bool
  /-- THE MODEL'S OWN: how many orders the part has drawn from `Config.lampRank` and `Config.markRank` (DESIGN CHOICE, log
  entries 3 and 6). -/
  draws : Nat
  /-- THE MODEL'S OWN: the commands waiting, first in, first out (DESIGN CHOICE, log entry 9). -/
  pending : List Instr
  deriving DecidableEq, Repr

/-- The part right after a power-on reset with an empty setting store: start-up has found no image, so the part is
UNCOMMISSIONED and every block stands at the reset values of its chapter (R172). The store's contents and the unit
serial are the model's choice (DESIGN CHOICE, log entries 1 and 2). -/
def State.reset : State :=
  { forwardQueue := [], emitQueue := [], ringOut := none, burst := 0, formerStation := none,
    slots := Vector.replicate 512 (Slot.fresh SlotConfig.blank), echo := Vector.replicate 64 none, reported := [],
    backlog := [], nextOrderId := 1, creationCount := 0,
    routes := Vector.replicate 8 Route.blank, trains := Vector.replicate 8 TrainUnit.blank,
    records := Vector.replicate 4 none,
    lineConfig := LineConfig.default, lineState := .unknown, takt := 600, taktReported := false,
    mode := .uncommissioned, serial := 0, station := none, server := none, pt := 0, timeUnset := true,
    flags := 0, mask := 0, cause := .power, storeInterrupted := false, store := .empty, storeOp := none,
    resetLow := false, draws := 0, pending := [] }

end Sys2Proof.Machine
end

