-- ==== Sys2Proof/Machine/Bytes.lean ====
section
/-! DEFINITION. Byte order, the check value and the frame of the ring (R148, R149, R150, R173, Table 11-1). -/

namespace Sys2Proof.Machine

/-! ## Byte order (R173) -/

/-- A number as one byte. -/
def byte (n : Nat) : Byte := BitVec.ofNat 8 n

/-- A number as two bytes, most significant first. -/
def be16 (n : Nat) : List Byte := [byte (n / 256), byte n]

/-- A number as four bytes, most significant first. -/
def be32 (n : Nat) : List Byte := be16 (n / 65536) ++ be16 n

/-- A number as six bytes, most significant first (the unit serial). -/
def be48 (n : Nat) : List Byte := be16 (n / 4294967296) ++ be32 n

/-- The number two bytes carry. -/
def value16 (a b : Byte) : Nat := a.toNat * 256 + b.toNat

/-- The number four bytes carry. -/
def value32 (a b c d : Byte) : Nat := value16 a b * 65536 + value16 c d

/-- The number six bytes carry. -/
def value48 (a b c d e f : Byte) : Nat := value16 a b * 4294967296 + value32 c d e f

/-- A yes/no byte (Table 11-11). -/
def yesNo (b : Bool) : Byte := byte (if b then 1 else 0)

/-! ## The check value (R149) -/

/-- One data bit enters the sixteen-bit register, which shifts one place toward its most significant end. -/
def checkBit (reg : Word16) (bit : Bool) : Word16 :=
  if reg.msb != bit then (reg <<< 1) ^^^ 0x1021#16 else reg <<< 1

/-- One byte enters the register, most significant bit first. -/
def checkByte (reg : Word16) (b : Byte) : Word16 :=
  [7, 6, 5, 4, 3, 2, 1, 0].foldl (fun r k => checkBit r (b.getLsbD k)) reg

/-- The check value of a sequence of bytes: the register starts at all ones and is not inverted. -/
def checkValue (bytes : List Byte) : Word16 := bytes.foldl checkByte 0xFFFF#16

/-! ## The frame (Table 11-1) -/

/-- Class codes (section 11.2). -/
def clsPull : Nat := 1
def clsLamp : Nat := 2
def clsVehicle : Nat := 3
def clsLine : Nat := 4
def clsTrainUp : Nat := 5
def clsTrainDown : Nat := 6
def clsPick : Nat := 7
def clsMaintReq : Nat := 8
def clsMaintReply : Nat := 9
def clsAlert : Nat := 10

/-- The bytes the check value is computed over: class, destination, source, length and payload (R149). -/
def checkedBytes (cls dst src : Nat) (payload : List Byte) : List Byte :=
  byte cls :: byte dst :: byte src :: byte payload.length :: payload

/-- A frame completed with its length and check (R148, R157). -/
def Frame.make (cls dst src : Nat) (payload : List Byte) : Frame :=
  { cls := cls, dst := dst, src := src, payload := payload, check := checkValue (checkedBytes cls dst src payload) }

/-- The bytes of a frame on the ring (Table 11-1). -/
def Frame.bytes (f : Frame) : List Byte :=
  checkedBytes f.cls f.dst f.src f.payload ++ be16 f.check.toNat

/-- The frame received bytes make, or `none` where R150 discards it: a length above 120, a payload of another length
than the length field says, a frame that ends before its check is complete, or a check that does not match. -/
def Frame.parse : List Byte → Option Frame
  | c :: d :: s :: l :: rest =>
    let n := l.toNat
    if n ≤ Config.payloadMax ∧ rest.length = n + 2 then
      match rest.drop n with
      | [hi, lo] =>
        if (value16 hi lo) = (checkValue (c :: d :: s :: l :: rest.take n)).toNat then
          some { cls := c.toNat, dst := d.toNat, src := s.toNat, payload := rest.take n,
                 check := BitVec.ofNat 16 (value16 hi lo) }
        else none
      | _ => none
    else none
  | _ => none

end Sys2Proof.Machine
end

