-- ==== Sys2Proof/Machine/Ops.lean ====
section
/-! DEFINITION. The named operations over the part's tables and registers: the one place each is read or written. -/

namespace Sys2Proof.Machine

/-! ## Arithmetic (section 3.1) -/

/-- The sum of a plant time and a duration, saturating. -/
def satAdd (a b : Nat) : Nat := min (a + b) ptMax

/-! ## Tables of fixed size -/

/-- Apply a function to one member of a table; an index beyond the table changes nothing. -/
def modifyAt {α : Type} {n : Nat} (v : Vector α n) (i : Nat) (f : α → α) : Vector α n :=
  if h : i < n then v.set i (f v[i]) else v

/-- Apply a function to every member of a table. -/
def mapTable {α β : Type} {n : Nat} (f : α → β) (v : Vector α n) : Vector β n :=
  ⟨⟨v.toList.map f⟩, by simp⟩

/-- A table made from its members' indexes. -/
def tabulate {α : Type} (n : Nat) (f : Nat → α) : Vector α n :=
  ⟨⟨(List.range n).map f⟩, by simp⟩

/-! ## Slots -/

/-- A slot record. -/
def State.slot (s : State) (i : Nat) : Slot := s.slots.getD i (Slot.fresh SlotConfig.blank)

/-- Change one slot record. -/
def State.modSlot (s : State) (i : Nat) (f : Slot → Slot) : State := { s with slots := modifyAt s.slots i f }

/-- Report a slot for a lamp derivation at the end of the event (R19). -/
def State.report (s : State) (i : Nat) : State := { s with reported := s.reported ++ [i] }

/-- Report several slots (R19). -/
def State.reportAll (s : State) (is : List Nat) : State := { s with reported := s.reported ++ is }

/-! ## Routes -/

/-- A route record. -/
def State.route (s : State) (r : Nat) : Route := s.routes.getD r Route.blank

/-- Change one route record. -/
def State.modRoute (s : State) (r : Nat) (f : Route → Route) : State := { s with routes := modifyAt s.routes r f }

/-- The static fields of a route record; all zero while it is not configured (R37). -/
def Route.cfg (r : Route) : RouteConfig := r.config.getD RouteConfig.zero

/-- A stored stop entry (R38). -/
def stopEntry (stops : Vector StopEntry 24) (k : Nat) : StopEntry := stops.getD k { offset := 0, marker := none }

/-- The items of entries 0 to n − 1 of a stop store, in number order. -/
def stopItems (stops : Vector StopEntry 24) (n : Nat) : List StopItem :=
  (List.range n).map fun k =>
    { stop := k, offset := (stopEntry stops k).offset, marker := (stopEntry stops k).marker.getD 0 }

/-- The stop list of a route (R38). -/
def Route.stopList (r : Route) : List StopItem := stopItems r.stops r.cfg.stopCount

/-- The offset a stop list gives a stop. -/
def offsetIn (items : List StopItem) (stop : Nat) : Option Nat :=
  (items.find? fun it => it.stop == stop).map StopItem.offset

/-- The stop list a tour runs: its saved one when resumed, the route's otherwise (R119, R134). -/
def Tour.stopList (t : Tour) (r : Route) : List StopItem :=
  match t.plan with
  | some p => p.stops
  | none => r.stopList

/-- Change the head of a route's waiting list. -/
def State.modHead (s : State) (r : Nat) (f : Tour → Tour) : State :=
  s.modRoute r fun ro => { ro with waiting := ro.waiting.modifyHead f }

/-- Change the RUNNING tour of a route. -/
def State.modRunning (s : State) (r : Nat) (f : Tour → Tour) : State :=
  s.modRoute r fun ro => { ro with running := ro.running.map f }

/-! ## Bindings -/

/-- What TU holds for a route. -/
def State.train (s : State) (r : Nat) : TrainUnit := s.trains.getD r TrainUnit.blank

/-- Change what TU holds for a route. -/
def State.modTrain (s : State) (r : Nat) (f : TrainUnit → TrainUnit) : State :=
  { s with trains := modifyAt s.trains r f }

/-- The train offered or bound, if any (Table 7-1). -/
def Binding.trainId : Binding → Option Nat
  | .unbound => none
  | .offered t _ _ => some t
  | .bound t _ _ => some t

/-- The train bound, if any. -/
def Binding.boundTrain : Binding → Option Nat
  | .bound t _ _ => some t
  | _ => none

/-! ## Interrupted tour records -/

/-- An interrupted tour record, if it is live (R132). -/
def State.record (s : State) (k : Nat) : Option Record := s.records.getD k none

/-- Write an interrupted tour record. -/
def State.setRecord (s : State) (k : Nat) (r : Option Record) : State :=
  { s with records := modifyAt s.records k fun _ => r }

/-- The live records. -/
def State.liveRecords (s : State) : List Record := s.records.toList.filterMap id

/-! ## Entries -/

/-- Closed entry states (Table 4-4). -/
def EntryState.closed : EntryState → Bool
  | .confirmed | .presumed | .confirmedLate => true
  | _ => false

/-- An entry that holds a live order (R57). -/
def Entry.isOpen (e : Entry) : Bool := !e.state.closed

/-- The tours on a route's board: the RUNNING tour, if any, then the waiting tours from the head (R76). -/
def Route.board (r : Route) : List Tour := r.running.toList ++ r.waiting

end Sys2Proof.Machine
end

