-- ==== Sys2Proof/Machine/Reach.lean ====
section
/-! DEFINITION. The Reach Calculator: the five stages that date an order (R24 to R29). -/

namespace Sys2Proof.Machine

/-- The two results of a dating (R23). -/
structure Dating where
  due : Nat
  urgent : Bool
  deriving DecidableEq, Repr

/-- Stage 1: A, the stock in 256ths of a piece; pieces above 65535 are taken as 65535 (R24, R25). -/
def reachStock (pieces : Nat) : Nat := min pieces piecesMax * 256

/-- Stage 2: D, the demand of one takt in 256ths of a piece (R25). -/
def reachDemand (usage share : Nat) : Nat := usage * share

/-- Stage 3: N, the takts to run-out, held at the horizon (R26). -/
def reachTakts (pieces usage share : Nat) : Nat :=
  min (reachStock pieces / reachDemand usage share) Config.horizon

/-- Stage 4: R, the ticks to run-out (R27). -/
def reachTicks (pieces usage share takt : Nat) : Nat := reachTakts pieces usage share * takt

/-- Stage 5: the due time and URGENT (R28, R29). -/
def dating (pieces usage share margin takt now : Nat) : Dating :=
  let reach := reachTicks pieces usage share takt
  if margin < reach then { due := satAdd now (reach - margin), urgent := false } else { due := now, urgent := true }

/-- Date an order of a slot with pieces on hand, as T and PT stand (R24, R30, R31). -/
def State.dateOrder (s : State) (i pieces : Nat) : Dating :=
  let c := (s.slot i).config
  dating pieces c.usage c.share c.margin s.takt s.pt

end Sys2Proof.Machine
end

