-- ==== Sys2Proof/Machine/Flags.lean ====
section
/-! DEFINITION. The alert flags, their mask and the ATTN_N pin (R168, R169), and the marks of entries and orders. -/

namespace Sys2Proof.Machine

/-- The sixteen alerts, in the order of R168 (bit 0 to bit 15 of a set field). -/
inductive Alert where
  | backlogFull
  | orderDropped
  | slotShort
  | lateOrder
  | departureHeld
  | tourInterrupted
  | itrAutoDissolved
  | itrSettled
  | presumedDelivery
  | markerError
  | pickShort
  | ringOverrun
  | emitOverrun
  | checkError
  | timeSaturated
  | saveDone
  deriving DecidableEq, Repr

/-- The bit of an alert in a set field (section 11.3). -/
def Alert.bit : Alert → Nat
  | .backlogFull => 0
  | .orderDropped => 1
  | .slotShort => 2
  | .lateOrder => 3
  | .departureHeld => 4
  | .tourInterrupted => 5
  | .itrAutoDissolved => 6
  | .itrSettled => 7
  | .presumedDelivery => 8
  | .markerError => 9
  | .pickShort => 10
  | .ringOverrun => 11
  | .emitOverrun => 12
  | .checkError => 13
  | .timeSaturated => 14
  | .saveDone => 15

/-- Whether an alert flag is set. -/
def State.flagSet (s : State) (a : Alert) : Bool := s.flags.getLsbD a.bit

/-- Whether an alert's enable is on. -/
def State.enabled (s : State) (a : Alert) : Bool := s.mask.getLsbD a.bit

/-- Set an alert flag. -/
def State.setFlag (s : State) (a : Alert) : State := { s with flags := s.flags ||| (1#16 <<< a.bit) }

/-- The level of ATTN_N: asserted (low) while a flag is set whose enable is on (R168). -/
def State.attnAsserted (s : State) : Bool := (s.flags &&& s.mask) != 0

/-- Evaluate the LATE mark of an open entry against its tour's arrival at its stop; a closed entry keeps the mark it
had (R61). -/
def Entry.evalLate (arrival : Nat) (e : Entry) : Entry :=
  if e.isOpen then { e with late := decide (e.due < arrival) } else e

/-- Whether an open entry of a slot carries LATE or URGENT (R20). -/
def Entry.lights (i : Nat) (e : Entry) : Bool := e.isOpen && e.slot == i && (e.late || e.urgent)

end Sys2Proof.Machine
end

