-- ==== Sys2Proof/Machine/Link.lean ====
section
/-! DEFINITION. The Link Unit: the two queues, the ring-out arbiter, emission and the raising of alerts (R157 to R160, R168). -/

namespace Sys2Proof.Machine

/-! ## The arbiter (R159) -/

/-- The arbiter chooses what ring-out, now free, sends next (R159). -/
def State.arbitrate (s : State) : State :=
  match s.forwardQueue, s.emitQueue with
  | [], [] => { s with ringOut := none }
  | f :: fs, [] => { s with ringOut := some { frame := f, own := false }, forwardQueue := fs, burst := 0 }
  | [], e :: es => { s with ringOut := some { frame := e, own := true }, emitQueue := es, burst := 0 }
  | f :: fs, e :: es =>
    if s.burst < Config.burstLimit then
      { s with ringOut := some { frame := f, own := false }, forwardQueue := fs, burst := s.burst + 1 }
    else { s with ringOut := some { frame := e, own := true }, emitQueue := es, burst := 0 }

/-- A telegram has joined a queue: while ring-out is idle it is sent at once (R159). -/
def State.kick (s : State) : State := if s.ringOut.isNone then s.arbitrate else s

/-! ## Emission (R157, R158) -/

/-- Whether the emit queue has room (R157). -/
def State.emitRoom (s : State) : Bool := s.emitQueue.length < Config.emitSize

/-- A block hands LU a telegram. LU completes the frame and it joins the emit queue; when the queue is full it is
discarded and EMIT_OVERRUN raised (R157). The ALERT telegram of that raise finds the queue still full and is discarded in
turn, with EMIT_OVERRUN already set (R158), so the flag is all that changes. -/
def State.emit (s : State) (cls dst : Nat) (payload : List Byte) : State :=
  if s.emitRoom then
    State.kick { s with emitQueue := s.emitQueue ++ [Frame.make cls dst (s.station.getD 0) payload] }
  else s.setFlag .emitOverrun

/-- The payload of an ALERT telegram: the flags set at this moment, and TIME_UNSET (R168, Table 11-2). -/
def State.alertPayload (s : State) : List Byte := byte 1 :: be16 s.flags.toNat ++ [yesNo s.timeUnset]

/-- Raise an alert: a clear flag becomes set, and an ALERT telegram goes to the server station when the flag's enable is on;
none is sent in UNCOMMISSIONED (R168). -/
def State.raise (s : State) (a : Alert) : State :=
  if s.flagSet a then s
  else
    let t := s.setFlag a
    if t.enabled a && t.mode != .uncommissioned then t.emit clsAlert (t.server.getD 0) t.alertPayload else t

/-! ## Forwarding (R157) -/

/-- A received frame that must travel on joins the forward queue, or is discarded with RING_OVERRUN (R157). -/
def State.forward (s : State) (f : Frame) : State :=
  if s.forwardQueue.length < Config.forwardSize then State.kick { s with forwardQueue := s.forwardQueue ++ [f] }
  else s.raise .ringOverrun

end Sys2Proof.Machine
end

