-- ==== Sys2Proof/Machine/Slots.lean ====
section
/-! DEFINITION. The Slot Unit's accounting: the piece and bin counts, credits and drops, and the rack lamps
(R6, R7, R17 to R22). -/

namespace Sys2Proof.Machine

/-! ## Finding slots -/

/-- The in-use slot with a key (R1). -/
def State.slotWithKey (s : State) (station position : Nat) : Option Nat :=
  (List.range Config.slotCount).find? fun i =>
    (s.slot i).config.inUse && (s.slot i).config.rackStation == station && (s.slot i).config.position == position

/-! ## Counts -/

/-- The number of bins that pieces fill, rounded up (R7). -/
def binsFilled (pieces perBin : Nat) : Nat := pieces / perBin + (if pieces % perBin = 0 then 0 else 1)

/-- F of a COUNTED slot as P and O stand; a SIGNALLED slot's F stays (R7). -/
def Slot.recount (sl : Slot) : Slot :=
  match sl.config.pullMode with
  | .signalled => sl
  | .counted => { sl with fullBins := min (sl.config.bins - sl.onOrder) (binsFilled sl.onHand sl.config.pieces) }

/-- Keep SHORT of a COUNTED slot equal to P = 0 (R7). -/
def State.noteShort (s : State) (i : Nat) : State :=
  let sl := s.slot i
  match sl.config.pullMode with
  | .signalled => s
  | .counted =>
    if sl.onHand = 0 then
      if sl.shortFlag then s else (s.modSlot i fun x => { x with shortFlag := true }).raise .slotShort
    else s.modSlot i fun x => { x with shortFlag := false }

/-- P or O of a slot has changed: F and SHORT follow, and the slot is reported for its lamp (R7, R19). -/
def State.countsChanged (s : State) (i : Nat) : State := ((s.modSlot i Slot.recount).noteShort i).report i

/-- Credit a delivered bin to a slot (R17). -/
def State.credit (s : State) (i : Nat) : State :=
  (s.modSlot i fun sl =>
    { sl with onHand := min (sl.onHand + sl.config.pieces) piecesMax, onOrder := sl.onOrder - 1,
              fullBins := match sl.config.pullMode with
                | .signalled => min sl.config.bins (sl.fullBins + 1)
                | .counted => sl.fullBins }).countsChanged i

/-- Drop an order of a slot that could not be kept (R18). -/
def State.drop (s : State) (i : Nat) : State :=
  ((s.modSlot i fun sl => { sl with onOrder := sl.onOrder - 1, lostOrder := true }).raise .orderDropped).countsChanged i

/-! ## Lamps -/

/-- LAMP kind codes (Table 11-2). -/
def LampKind.code : LampKind → Nat
  | .off => 0
  | .ordered => 1
  | .late => 2
  | .short => 3
  | .cancelRefused => 4
  | .notTaken => 5

/-- Hand LU a LAMP telegram of a kind for a slot (R20, R22). -/
def State.emitLamp (s : State) (i : Nat) (k : LampKind) : State :=
  s.emit clsLamp (s.slot i).config.rackStation [byte k.code, byte (s.slot i).config.position]

/-- Whether any live order of a slot carries LATE or URGENT, wherever it stands (R20). -/
def State.slotMarked (s : State) (i : Nat) : Bool :=
  s.backlog.any (fun o => o.slot == i && o.urgent)
    || s.routes.toList.any (fun r => r.board.any fun t => t.entries.any (Entry.lights i))
    || s.liveRecords.any (fun rec => rec.pending.any fun p => p.slot == i && (p.late || p.urgent))

/-- The derived lamp state of a SIGNALLED in-use slot (R20). -/
def State.lampOf (s : State) (i : Nat) : LampKind :=
  if (s.slot i).onHand = 0 then .short
  else if s.slotMarked i then .late
  else if (s.slot i).onOrder > 0 then .ordered
  else .off

/-- Whether a slot has a derived lamp (R20). -/
def Slot.hasLamp (sl : Slot) : Bool := sl.config.inUse && sl.config.pullMode == .signalled

/-- Whether a derivation for a slot finds a difference (R20). -/
def State.lampDiffers (s : State) (i : Nat) : Bool := (s.slot i).hasLamp && s.lampOf i != (s.slot i).lamp

/-- Derive the lamp of a slot: a difference sends a LAMP telegram, and the kind is stored when LU accepts it (R20). -/
def State.deriveLamp (s : State) (i : Nat) : State :=
  if s.lampDiffers i then
    if s.emitRoom then (s.emitLamp i (s.lampOf i)).modSlot i fun sl => { sl with lamp := s.lampOf i }
    else s.emitLamp i (s.lampOf i)
  else s

/-- Insert a slot index into a list by rank, equal ranks by index; an index already there is passed over. -/
def insertByRank (rank : Nat → Nat) (i : Nat) : List Nat → List Nat
  | [] => [i]
  | j :: js =>
    if i = j then j :: js
    else if rank i < rank j ∨ (rank i = rank j ∧ i < j) then i :: j :: js
    else j :: insertByRank rank i js

/-- The reported slots whose lamps differ, each once, in the order the part derives them: the manual gives none, so
the order is free (DESIGN CHOICE, log entry 6). -/
def State.lampOrder (s : State) : List Nat :=
  (s.reported.filter s.lampDiffers).foldl (fun l i => insertByRank (Config.lampRank s.draws) i l) []

/-- The end of an event: the lamp of each reported slot is derived once (R19). -/
def State.settleLamps (s : State) : State :=
  s.lampOrder.foldl State.deriveLamp
    { s with reported := [], draws := if s.lampOrder.length < 2 then s.draws else s.draws + 1 }

end Sys2Proof.Machine
end

