-- ==== Sys2Proof/Machine/Planner.lean ====
section
/-! DEFINITION. The Planner: order ids, the backlog's order, placement, drains and rollbacks (R79 to R90, R95), with the
entry list of a tour and the raising of orders (R14, R15, R58 to R60). -/

namespace Sys2Proof.Machine

/-! ## Orders of the collections -/

/-- Whether a backlog order stands before another: due time, created time, creation count (R81). -/
def Order.before (a b : Order) : Bool :=
  a.due < b.due || (a.due == b.due && (a.created < b.created || (a.created == b.created && a.creation < b.creation)))

/-- Whether an entry stands before another of its tour: stop, due time, creation (R58). -/
def Entry.before (a b : Entry) : Bool :=
  a.stop < b.stop || (a.stop == b.stop && (a.due < b.due || (a.due == b.due &&
    (a.created < b.created || (a.created == b.created && a.creation < b.creation)))))

/-- Whether a pending entry stands before another of its record: the order of R58 (R135). -/
def Pending.before (a b : Pending) : Bool :=
  a.stop < b.stop || (a.stop == b.stop && (a.due < b.due || (a.due == b.due &&
    (a.created < b.created || (a.created == b.created && a.creation < b.creation)))))

/-- Insert a member into a list kept in order: it stands before the first member it precedes. -/
def insertOrdered {α : Type} (before : α → α → Bool) (x : α) : List α → List α
  | [] => [x]
  | y :: ys => if before x y then x :: y :: ys else y :: insertOrdered before x ys

/-- Put a list in order. -/
def sortOrdered {α : Type} (before : α → α → Bool) : List α → List α
  | [] => []
  | x :: xs => insertOrdered before x (sortOrdered before xs)

/-- The last of the members that no other member exceeds, by a strict order. -/
def newestOf {α : Type} (older : α → α → Bool) : List α → Option α
  | [] => none
  | x :: xs =>
    match newestOf older xs with
    | none => some x
    | some y => some (if older x y then y else x)

/-! ## Names (R82) -/

/-- The order id after another: 65535 wraps to 1. -/
def nextId (n : Nat) : Nat := if 65535 ≤ n then 1 else n + 1

/-- The first id from a value on that is not live; as many tries as there are live ids are enough. -/
def freeId (live : List Nat) : Nat → Nat → Nat
  | 0, n => n
  | k + 1, n => if live.contains n then freeId live k (nextId n) else n

/-- The ids of the live orders: backlog, open entries and pending entries (R79, R82). -/
def State.liveIds (s : State) : List Nat :=
  s.backlog.map Order.id
    ++ s.routes.toList.flatMap (fun r => r.board.flatMap fun t => (t.entries.filter Entry.isOpen).map Entry.orderId)
    ++ s.liveRecords.flatMap (fun rec => rec.pending.map Pending.orderId)

/-- The id the next taken order receives (R82). -/
def State.nextFreeId (s : State) : Nat := freeId s.liveIds s.liveIds.length s.nextOrderId

/-- The order PL makes of one it takes (R80, R82). -/
def State.newOrder (s : State) (slot due : Nat) (urgent : Bool) (origin : Origin) : Order :=
  { id := s.nextFreeId, creation := s.creationCount, slot := slot, due := due, urgent := urgent, origin := origin,
    created := s.pt }

/-- The counters after an order is taken (R82). -/
def State.advanceNames (s : State) : State :=
  { s with nextOrderId := nextId s.nextFreeId, creationCount := if ptMax ≤ s.creationCount then 0 else s.creationCount + 1 }

/-! ## The backlog -/

/-- Whether the backlog has room for n more orders (R88). -/
def State.backlogRoom (s : State) (n : Nat) : Bool := s.backlog.length + n ≤ Config.backlogSize

/-- An order joins the backlog at the position R81 gives it. -/
def State.insertBacklog (s : State) (o : Order) : State := { s with backlog := insertOrdered Order.before o s.backlog }

/-- The order an entry carries, as it returns to the backlog (R80, R87). -/
def Entry.toOrder (e : Entry) (origin : Origin) : Order :=
  { id := e.orderId, creation := e.creation, slot := e.slot, due := e.due, urgent := e.urgent, origin := origin,
    created := e.created }

/-- The order a pending entry carries, as it returns to the backlog (R87, R140). -/
def Pending.toOrder (p : Pending) (origin : Origin) : Order :=
  { id := p.orderId, creation := p.creation, slot := p.slot, due := p.due, urgent := p.urgent, origin := origin,
    created := p.created }

/-- Report a slot when a mark of one of its orders was lost (R19). -/
def State.reportIf (s : State) (marked : Bool) (i : Nat) : State := if marked then s.report i else s

/-- An entry's order is rolled back into the backlog (R87). -/
def State.rollback (s : State) (origin : Origin) (e : Entry) : State :=
  (s.insertBacklog (e.toOrder origin)).reportIf e.late e.slot

/-- An entry's order is rolled back, or dropped when the backlog is full (R89). -/
def State.rollbackOrDrop (s : State) (origin : Origin) (e : Entry) : State :=
  if s.backlogRoom 1 then s.rollback origin e else s.drop e.slot

/-! ## Placement (R84, R85) -/

/-- The capacity in effect C of a route (R59). -/
def State.capacity (s : State) (r : Nat) : Nat :=
  match (s.train r).binding with
  | .unbound => (s.route r).cfg.binLimit
  | .offered _ c _ => min (s.route r).cfg.binLimit c
  | .bound _ c _ => min (s.route r).cfg.binLimit c

/-- The effective stop of a slot's stop field on a route (R38). -/
def Route.effectiveStop (r : Route) (stop : Nat) : Nat :=
  if stop < r.cfg.stopCount then stop else r.cfg.stopCount - 1

/-- The arrival of a tour at a stop (R60, R142). -/
def Tour.arrival (t : Tour) (r : Route) (stop : Nat) : Nat :=
  match t.plan with
  | none => satAdd t.plannedDeparture (stopEntry r.stops stop).offset
  | some p =>
    match offsetIn p.stops stop with
    | none => t.plannedDeparture
    | some off => min (t.plannedDeparture + off - (offsetIn p.stops p.faultStop).getD 0) ptMax

/-- Whether a waiting tour of a route can take an order: PLANNED, not held, with fewer entries than C (R84). -/
def State.takesOrders (s : State) (r : Nat) (t : Tour) : Bool :=
  t.state == .planned && !t.held && decide (t.entries.length < s.capacity r)

/-- The candidate tours of a route with their positions, in departure order (R84). -/
def State.candidates (s : State) (r : Nat) : List (Tour × Nat) :=
  (s.route r).waiting.zipIdx.filter fun c => s.takesOrders r c.1

/-- The position of the tour the policy of the slot's route chooses for an order (R85). -/
def State.chooseTour (s : State) (slot due : Nat) : Option Nat :=
  let r := (s.slot slot).config.route
  let ro := s.route r
  let stop := ro.effectiveStop (s.slot slot).config.stop
  match ro.cfg.policy with
  | .earliest => (s.candidates r).head?.map Prod.snd
  | .latestFit =>
    match ((s.candidates r).filter fun c => c.1.arrival ro stop ≤ due).getLast? with
    | some c => some c.2
    | none => (s.candidates r).head?.map Prod.snd

/-- The entry RU makes of an order placed on a tour of its slot's route, with its LATE mark evaluated (R57, R85). -/
def State.entryFor (s : State) (o : Order) (t : Tour) : Entry :=
  let ro := s.route (s.slot o.slot).config.route
  let stop := ro.effectiveStop (s.slot o.slot).config.stop
  { orderId := o.id, created := o.created, creation := o.creation, slot := o.slot, stop := stop, due := o.due,
    urgent := o.urgent, late := decide (o.due < t.arrival ro stop), number := none, state := .waiting }

/-- Insert an entry into a tour's list (R58). -/
def Tour.insert (t : Tour) (e : Entry) : Tour := { t with entries := insertOrdered Entry.before e t.entries }

/-- RU puts an order on the waiting tour at a position; a LATE mark raises LATE_ORDER and reports the slot (R85). -/
def State.place (s : State) (o : Order) (k : Nat) : State :=
  let r := (s.slot o.slot).config.route
  match (s.route r).waiting[k]? with
  | none => s
  | some t =>
    let e := s.entryFor o t
    let s1 := s.modRoute r fun ro => { ro with waiting := ro.waiting.modify k fun x => x.insert e }
    if e.late then (s1.raise .lateOrder).report o.slot else s1

/-! ## Drains (R86) -/

/-- Offer orders, one after another, to the tours of a set of routes. -/
def State.offerOrders (routes : List Nat) : List Order → State → State
  | [], s => s
  | o :: os, s =>
    if routes.contains (s.slot o.slot).config.route then
      match s.chooseTour o.slot o.due with
      | some k => State.offerOrders routes os (State.place { s with backlog := s.backlog.erase o } o k)
      | none => State.offerOrders routes os s
    else State.offerOrders routes os s

/-- A drain of the backlog over a set of routes, walked once from head to tail (R86). -/
def State.drain (s : State) (routes : List Nat) : State := State.offerOrders routes s.backlog s

/-! ## Taking and raising an order (R14, R15, R83) -/

/-- PL takes an order: it is placed, or enters the backlog; `none` when it can do neither (R83). -/
def State.take (s : State) (slot due : Nat) (urgent : Bool) (origin : Origin) : Option State :=
  let o := s.newOrder slot due urgent origin
  match (if s.mode = .run then s.chooseTour slot due else none) with
  | some k => some (s.advanceNames.place o k)
  | none => if s.backlogRoom 1 then some (s.advanceNames.insertBacklog o) else none

/-- SU raises one order of a slot, dated with pieces on hand. Answers whether PL took it (R14, R15). -/
def State.raiseOrder (s : State) (i pieces : Nat) (origin : Origin) : State × Bool :=
  let d := s.dateOrder i pieces
  match s.take i d.due d.urgent origin with
  | some s1 =>
    ((s1.modSlot i fun sl =>
        { sl with onOrder := sl.onOrder + 1, lostOrder := false, notTaken := false }).countsChanged i, true)
  | none =>
    let s1 := (s.modSlot i fun sl => { sl with notTaken := true }).raise .backlogFull
    (if (s.slot i).config.pullMode = .signalled then s1.emitLamp i .notTaken else s1, false)

/-- Raise up to n orders of a slot one after another, the first dated with `pieces`, each later one with Q more; an order
that is not taken ends the step (R10, R14, R15, R33). -/
def State.raiseOrders (i : Nat) (origin : Origin) : Nat → Nat → State → State
  | 0, _, s => s
  | n + 1, pieces, s =>
    match s.raiseOrder i pieces origin with
    | (s1, true) => State.raiseOrders i origin n (pieces + (s.slot i).config.pieces) s1
    | (s1, false) => s1

/-- Raise orders of a COUNTED slot while P + O × Q is at or below its reorder point and O is below B (R13). The first
argument bounds the walk: B − O at its start is enough. -/
def State.raiseToReorder (i : Nat) : Nat → Nat → State → State
  | 0, _, s => s
  | n + 1, pieces, s =>
    let sl := s.slot i
    if sl.onHand + sl.onOrder * sl.config.pieces ≤ sl.config.reorderPoint ∧ sl.onOrder < sl.config.bins then
      match s.raiseOrder i pieces .count with
      | (s1, true) => State.raiseToReorder i n (pieces + sl.config.pieces) s1
      | (s1, false) => s1
    else s

end Sys2Proof.Machine
end

