-- ==== Sys2Proof/Machine/Board.lean ====
section
/-! DEFINITION. The Route Unit: the tour board, freeze and pick lists, cutoff, departure, holding and re-timing
(R46, R47, R49, R54, R61 to R75), with the start of a tour by the Train Unit (R117, R118). -/

namespace Sys2Proof.Machine

/-! ## Units and lists -/

/-- A route's unit in ticks: one for a FIXED route, T for a TAKT route (section 3.3, R103). -/
def State.unit (s : State) (r : Nat) : Nat :=
  match (s.route r).cfg.timing with
  | .fixed => 1
  | .takt => s.takt

/-- Split a list into groups of k, the last one shorter (R65, R121); the first argument bounds the walk. -/
def groupsOf {α : Type} (k : Nat) : Nat → List α → List (List α)
  | 0, _ => []
  | fuel + 1, xs => if xs.isEmpty then [] else xs.take k :: groupsOf k fuel (xs.drop k)

/-! ## LATE marks (R61) -/

/-- The tour with LATE evaluated on every open entry (R61). -/
def Tour.evaluate (t : Tour) (r : Route) : Tour :=
  { t with entries := t.entries.map fun e => e.evalLate (t.arrival r e.stop) }

/-- What follows an evaluation: a newly set LATE raises LATE_ORDER, and each slot whose entry changed a mark is reported
(R61, R19). The lists are the tour's entries before and after. -/
def State.noteMarks (s : State) (old new : List Entry) : State :=
  let pairs := old.zip new
  let s1 := if pairs.any (fun p => !p.1.late && p.2.late) then s.raise .lateOrder else s
  s1.reportAll ((pairs.filter fun p => p.1.late != p.2.late || p.1.urgent != p.2.urgent).map fun p => p.2.slot)

/-- Give each waiting tour of a route the planned departure `f` gives its position, and evaluate LATE on the tours whose
value changed (R49, R61, R74). -/
def State.retimeTours (s : State) (r : Nat) (f : Nat → Tour → Nat) : State :=
  let ro := s.route r
  let retimed := ro.waiting.zipIdx.map fun c =>
    if f c.2 c.1 = c.1.plannedDeparture then c.1
    else Tour.evaluate { c.1 with plannedDeparture := f c.2 c.1 } ro
  (s.modRoute r fun x => { x with waiting := retimed }).noteMarks
    (ro.waiting.flatMap Tour.entries) (retimed.flatMap Tour.entries)

/-! ## Appending (R54, R62) -/

/-- The tour number after another: 65535 wraps to 1 (R54). -/
def nextTourNumber (n : Nat) : Nat := if 65535 ≤ n then 1 else n + 1

/-- The first tour number from a value on that is not taken; as many tries as there are taken numbers are enough. -/
def freeTourNumber (taken : List Nat) : Nat → Nat → Nat
  | 0, n => n
  | k + 1, n => if taken.contains n then freeTourNumber taken k (nextTourNumber n) else n

/-- The tour numbers a route's live tours and live records hold (R54). -/
def State.takenNumbers (s : State) (r : Nat) : List Nat :=
  (s.route r).board.map Tour.number ++ (s.liveRecords.filter fun rec => rec.route == r).map Record.tour

/-- A tour as it is appended (R56, R62). -/
def Tour.appended (number departure : Nat) : Tour :=
  { number := number, state := .planned, plannedDeparture := departure, held := false, slips := 0, pickState := none,
    entries := [], currentStop := none, plan := none, window := none, limit := none, resumeCount := 0 }

/-- The planned departure of the next tour appended to a route (R62). -/
def State.nextDeparture (s : State) (r : Nat) : Nat :=
  match (s.route r).waiting.getLast? with
  | some t => satAdd t.plannedDeparture ((s.route r).cfg.period * s.unit r)
  | none => satAdd s.pt ((s.route r).count * s.unit r)

/-- Append one PLANNED tour at the tail of a route's waiting list (R54, R62). -/
def State.appendTour (s : State) (r : Nat) : State :=
  let n := freeTourNumber (s.takenNumbers r) (s.takenNumbers r).length (s.route r).nextTour
  s.modRoute r fun ro =>
    { ro with waiting := ro.waiting ++ [Tour.appended n (s.nextDeparture r)], nextTour := nextTourNumber n }

/-- Append tours n times at most, while the waiting list is short of the route's depth. -/
def State.appendUpTo (r : Nat) : Nat → State → State
  | 0, s => s
  | n + 1, s =>
    if (s.route r).waiting.length < (s.route r).cfg.depth then State.appendUpTo r n (s.appendTour r) else s

/-- Append tours up to the route's depth, when it is enabled and the part is in RUN (R62). -/
def State.appendTours (s : State) (r : Nat) : State :=
  if s.mode = .run ∧ (s.route r).enabled then State.appendUpTo r (s.route r).cfg.depth s else s

/-! ## Freeze (R64 to R66) -/

/-- Number entries from a value on, in list order (R64). -/
def numberEntries : Nat → List Entry → List Entry
  | _, [] => []
  | n, e :: es => { e with number := some n } :: numberEntries (n + 1) es

/-- A PICK telegram's kind code and the bytes every PICK payload begins with (Table 11-4). -/
def pickPayload (kind route tour : Nat) : List Byte := [byte kind, byte route] ++ be16 tour

/-- One item of a PICK_LIST (Table 11-4): the part_tag is read from the slot record at the freeze (R65). -/
def State.pickItem (s : State) (e : Entry) : List Byte :=
  [byte (e.number.getD 0)] ++ be16 e.slot ++ be32 (s.slot e.slot).config.partTag ++ [byte e.stop]

/-- Publish the pick list of a route's frozen head: PICK_LIST telegrams of up to 14 entries, then LIST_READY (R65, R66). -/
def State.publish (s : State) (r : Nat) (t : Tour) : State :=
  let station := (s.route r).cfg.pickStation
  let lists := (groupsOf 14 t.entries.length t.entries).map fun g =>
    pickPayload 1 r t.number ++ [byte g.length] ++ g.flatMap s.pickItem
  (lists ++ [pickPayload 2 r t.number ++ [byte t.entries.length]]).foldl (fun x p => x.emit clsPick station p) s

/-- A tour as the freeze leaves it (R64, R66). -/
def Tour.frozen (t : Tour) : Tour :=
  { t with state := .frozen, entries := numberEntries 1 t.entries,
           pickState := some (if t.entries.isEmpty then .picked else .ready) }

/-- Freeze the head of a route (R64). -/
def State.freeze (s : State) (r : Nat) : State :=
  match (s.route r).waiting with
  | [] => s
  | h :: _ => (s.modHead r Tour.frozen).publish r h.frozen

/-! ## Cutoff (R46) -/

/-- The head as the cutoff reached sets its planned departure to `departure`; a changed value evaluates LATE (R46). -/
def Tour.atCutoff (h : Tour) (r : Route) (departure : Nat) : Tour :=
  if departure = h.plannedDeparture then h else Tour.evaluate { h with plannedDeparture := departure } r

/-- The cutoff-reached event of a route, with its count as it stands (R46). -/
def State.cutoff (s : State) (r : Nat) : State :=
  match (s.route r).waiting with
  | [] => s
  | h :: _ =>
    if h.held then s
    else
      let departure := satAdd s.pt ((s.route r).count * s.unit r)
      let h1 := h.atCutoff (s.route r) departure
      let s1 := (s.modHead r fun _ => h1).noteMarks h.entries h1.entries
      if h.state = .planned then s1.freeze r else s1

/-- The check for a new head at or below the cutoff (R46, R63 step 4). -/
def State.cutoffIfDue (s : State) (r : Nat) : State :=
  if (s.route r).count ≤ (s.route r).cfg.cutoffLead then s.cutoff r else s

/-! ## Starting a tour (R117, R118, R143) -/

/-- The window a confirm_code stands for (Table 3-1). -/
def windowOf (code : Nat) : Option Nat :=
  if code = 1 then some 300 else if code = 2 then some 600 else if code = 3 then some 1200
  else if code = 4 then some 3000 else none

/-- The limit a silence_limit field stands for: 0 is off (Table 3-1). -/
def limitOf (field : Nat) : Option Nat := if field = 0 then none else some field

/-- The bytes every TRAIN_UP and TRAIN_DOWN payload begins with (section 11.4). -/
def trainPayload (kind route train : Nat) : List Byte := [byte kind, byte route, byte train]

/-- The ROUTE_ORDER of a tour: every stop of its stop list with the number of its entries there (R118, R143). -/
def routeOrder (r : Nat) (train : Nat) (t : Tour) (items : List StopItem) : List Byte :=
  trainPayload 2 r train ++ be16 t.number ++ [byte items.length, byte t.entries.length]
    ++ items.flatMap fun it =>
      [byte it.stop, byte it.marker, byte (t.entries.countP fun e => e.stop == it.stop)]

/-- Hand LU a telegram for a train, through the radio bridge (R111). -/
def State.emitTrain (s : State) (payload : List Byte) : State :=
  s.emit clsTrainDown s.lineConfig.radioBridge payload

/-- The binding with its train on tour, or back from one. -/
def Binding.withState (b : Binding) (st : TrainState) : Binding :=
  match b with
  | .bound t c _ => .bound t c st
  | x => x

/-- TU starts the RUNNING tour of a route: the train goes ON_TOUR, ROUTE_ORDER is sent and the silence timer starts
(R117, steps 2 to 5). -/
def State.startTour (s : State) (r : Nat) (t : Tour) : State :=
  ((s.modTrain r fun u => { u with binding := u.binding.withState .onTour }).emitTrain
    (routeOrder r ((s.train r).binding.trainId.getD 0) t (t.stopList (s.route r)))).modTrain r
      fun u => { u with silenceTimer := t.limit, confirmTimer := none }

/-! ## Departure (R70 to R74) -/

/-- Whether a route is BOUND with its train READY (R70 conditions 3 and 4). -/
def Binding.isReady : Binding → Bool
  | .bound _ _ .ready => true
  | _ => false

/-- The five departure conditions of a head (R70). -/
def State.departureReady (s : State) (r : Nat) (h : Tour) : Bool :=
  h.state == .frozen && h.pickState == some .picked && (s.train r).binding.isReady && (s.route r).running.isNone

/-- The head as it departs at a time: RUNNING, its entries LOADED, with the window and limit of its route recorded
(R71 steps 1 and 2, R117 step 1). -/
def Tour.departed (h : Tour) (c : RouteConfig) (time : Nat) : Tour :=
  { h with state := .running, plannedDeparture := time, held := false, pickState := none, currentStop := some (-1),
           entries := h.entries.map fun e => { e with state := .loaded },
           window := windowOf c.confirmCode, limit := limitOf c.silenceLimit }

/-- What follows the departure of a head: a tour is appended, the backlog drains over the route, and the new head is checked
against the cutoff (R63, R71 step 5). -/
def State.afterHead (s : State) (r : Nat) : State := ((s.appendTours r).drain [r]).cutoffIfDue r

/-- The head of a route departs now; the tours behind a held head are re-timed (R71, R74). -/
def State.depart (s : State) (r : Nat) : State :=
  match (s.route r).waiting with
  | [] => s
  | h :: rest =>
    let ro := s.route r
    let t := (h.departed ro.cfg s.pt).evaluate ro
    let s1 := (s.modRoute r fun x => { x with waiting := rest, running := some t }).noteMarks h.entries t.entries
    let s2 := s1.startTour r t
    let s3 :=
      if h.held then
        s2.retimeTours r fun k x => max x.plannedDeparture (satAdd s.pt ((k + 1) * ro.cfg.period * s.unit r))
      else s2
    s3.afterHead r

/-- The head is held: a slip is counted, and the first one raises DEPARTURE_HELD (R72). -/
def State.hold (s : State) (r : Nat) (h : Tour) : State :=
  let s1 := s.modHead r fun x => { x with held := true, slips := min (x.slips + 1) 15 }
  if h.held then s1 else s1.raise .departureHeld

/-- A departure due reaches the tour board: the head departs or is held (R70). -/
def State.boardDue (s : State) (r : Nat) : State :=
  match (s.route r).waiting with
  | [] => s
  | h :: _ => if s.departureReady r h then s.depart r else s.hold r h

/-- The departure-due event of a route whose count has fallen to 0 (R47). -/
def State.due (s : State) (r : Nat) : State :=
  let s0 := s.modRoute r fun ro => { ro with count := 0 }
  let s1 := if (s.route r).cfg.cutoffLead = 0 then s0.cutoff r else s0
  State.boardDue (s1.modRoute r fun ro => { ro with count := ro.cfg.period }) r

/-- The check of a held head after an event that may complete its conditions (R73). -/
def State.checkHeld (s : State) (r : Nat) : State :=
  match (s.route r).waiting with
  | [] => s
  | h :: _ => if h.held && s.departureReady r h then s.depart r else s

/-! ## The timer (R43 to R47) -/

/-- Whether a route's timer runs (R43). -/
def State.timerRuns (s : State) (r : Nat) : Bool :=
  s.mode == .run && (s.route r).enabled && (s.route r).config.isSome

/-- One unit passes on a route's running timer: the count falls by one, and a count at the cutoff or at 0 brings its event
(R43, R46, R47). -/
def State.countDown (s : State) (r : Nat) : State :=
  let s1 := s.modRoute r fun ro => { ro with count := ro.count - 1 }
  if (s1.route r).count = 0 then s1.due r
  else if (s1.route r).count = (s1.route r).cfg.cutoffLead then s1.cutoff r
  else s1

/-! ## Leaving the board (R75) -/

/-- The entries of a route's waiting tours, tour by tour. -/
def State.waitingEntries (s : State) (r : Nat) : List Entry := (s.route r).waiting.flatMap Tour.entries

/-- Dissolve every waiting tour of a route into the backlog (R75, R87). -/
def State.dissolve (s : State) (origin : Origin) (r : Nat) : State :=
  (s.waitingEntries r).foldl (fun x e => x.rollback origin e) (s.modRoute r fun ro => { ro with waiting := [] })

end Sys2Proof.Machine
end

