-- ==== Sys2Proof/Machine/Records.lean ====
section
/-! DEFINITION. The Interrupted Tour Store: capture, settlement, dissolve, resume and auto-dissolve (R132 to R145). -/

namespace Sys2Proof.Machine

/-! ## Finding records -/

/-- The live record whose stamp is a route and tour number (R123, R153). -/
def State.recordOf (s : State) (route tour : Nat) : Option Nat :=
  (List.range Config.recordCount).find? fun k =>
    match s.record k with
    | some rec => rec.route == route && rec.tour == tour
    | none => false

/-- The free record with the lowest id (R133). -/
def State.freeRecord (s : State) : Option Nat :=
  (List.range Config.recordCount).find? fun k => (s.record k).isNone

/-! ## Capture (R133 to R135) -/

/-- The fault stop of an interrupted tour (R134). -/
def faultStopOf (t : Tour) (items : List StopItem) : Nat :=
  match t.currentStop with
  | some (.ofNat c) =>
    if t.entries.any (fun e => e.stop == c && (e.state == .atStop || e.state == .loaded)) then c
    else if items.any (fun it => c < it.stop) then c + 1
    else c
  | _ => (items.head?.map StopItem.stop).getD 0

/-- A pending entry as it is copied from a tour entry (R135). -/
def Entry.toPending (e : Entry) : Pending :=
  { number := e.number.getD 0, orderId := e.orderId, creation := e.creation, created := e.created, slot := e.slot,
    stop := e.stop, due := e.due, urgent := e.urgent, late := e.late }

/-- The record a tour is captured into, its pending entries in the order of R58 (R133, R134, R135, Table 8-1). -/
def captureOf (t : Tour) (ro : Route) (route train : Nat) (cause : Cause) (now : Nat) : Record :=
  let items := t.stopList ro
  let fault := faultStopOf t items
  { route := route, tour := t.number, train := train, cause := cause, time := now, faultStop := fault,
    stops := items.filter fun it => fault ≤ it.stop, window := t.window, limit := t.limit,
    pending := sortOrdered Pending.before ((t.entries.filter Entry.isOpen).map Entry.toPending), resumeCount := t.resumeCount }

/-- The open entries of a tour return to the backlog one by one, or are dropped (R145, R89). -/
def State.autoDissolve (s : State) (t : Tour) : State :=
  ((t.entries.filter Entry.isOpen).foldl (fun x e => x.rollbackOrDrop .dissolved e) s).raise .itrAutoDissolved

/-- ITS takes an interrupted tour: nothing is kept of a tour with no open entry; a third interruption or a full store
auto-dissolves it; otherwise the free record of lowest id captures it (R133). -/
def State.storeTour (s : State) (t : Tour) (route train : Nat) (cause : Cause) : State :=
  if t.entries.all (fun e => !e.isOpen) then s
  else if t.plan.isSome ∧ t.resumeCount = 3 then s.autoDissolve t
  else
    match s.freeRecord with
    | none => s.autoDissolve t
    | some k => s.setRecord k (some (captureOf t (s.route route) route train cause s.pt))

/-! ## Settlement (R137, R138) -/

/-- The record without the pending entry of a number, or none when it was the last. -/
def Record.settle (rec : Record) (number : Nat) : Option Record :=
  let left := rec.pending.filter fun p => p.number != number
  if left.isEmpty then none else some { rec with pending := left }

/-- A pending entry of a live record is settled: its slot is credited, and a record left with none is freed with
ITR_SETTLED (R137, R138). -/
def State.settleEntry (s : State) (k : Nat) (rec : Record) (p : Pending) : State :=
  let s1 := (s.setRecord k (rec.settle p.number)).credit p.slot
  if (rec.settle p.number).isNone then s1.raise .itrSettled else s1

/-! ## Resolution (R140, R141) -/

/-- Dissolve a record into the backlog and free it (R140). -/
def State.dissolveRecord (s : State) (k : Nat) (rec : Record) : State :=
  rec.pending.foldl (fun x p => (x.insertBacklog (p.toOrder .dissolved)).reportIf p.late p.slot) (s.setRecord k none)

/-- The entry a pending entry becomes on a resumed tour (R141 step 2). It brings its LATE mark to the evaluation of step 3 (DESIGN
CHOICE, log entry 27). -/
def Pending.toEntry (p : Pending) : Entry :=
  { orderId := p.orderId, created := p.created, creation := p.creation, slot := p.slot, stop := p.stop, due := p.due,
    urgent := p.urgent, late := p.late, number := some p.number, state := .loaded }

/-- The tour a record is rebuilt as at a time, before its LATE marks are evaluated (R141 steps 1 and 2). -/
def Record.toTour (rec : Record) (now : Nat) : Tour :=
  { number := rec.tour, state := .running, plannedDeparture := now, held := false, slips := 0, pickState := none,
    entries := rec.pending.map Pending.toEntry, currentStop := some (-1),
    plan := some { stops := rec.stops, faultStop := rec.faultStop }, window := rec.window, limit := rec.limit,
    resumeCount := rec.resumeCount + 1 }

/-- Resume a record on its route's bound train (R141). -/
def State.resumeRecord (s : State) (k : Nat) (rec : Record) : State :=
  let t0 := rec.toTour s.pt
  let t := t0.evaluate (s.route rec.route)
  let s1 := (s.modRoute rec.route fun ro => { ro with running := some t }).noteMarks t0.entries t.entries
  (s1.startTour rec.route t).setRecord k none

end Sys2Proof.Machine
end

