-- ==== Sys2Proof/Machine/Trains.lean ====
section
/-! DEFINITION. The Train Unit: check-in and binding, markers, confirmation and presumption, return, interruption and
refusals (R111 to R131). -/

namespace Sys2Proof.Machine

/-! ## Refusals (R131) -/

/-- REJECT reasons (Table 11-8). -/
inductive Reason where
  | notEnabled
  | bound
  | capacity
  | offer
  | busy
  | notBound
  | duplicate
  | tourClosed
  deriving DecidableEq, Repr

/-- Reason codes (Table 11-8). -/
def Reason.code : Reason → Nat
  | .notEnabled => 1
  | .bound => 2
  | .capacity => 3
  | .offer => 4
  | .busy => 5
  | .notBound => 6
  | .duplicate => 7
  | .tourClosed => 8

/-- TRAIN_UP kind codes (Table 11-3). -/
def kindCheckIn : Nat := 1
def kindCheckAccept : Nat := 2
def kindSignOff : Nat := 3
def kindPass : Nat := 4
def kindDelivered : Nat := 5
def kindReturn : Nat := 6
def kindFault : Nat := 7

/-- The payload of a REJECT to a train (Table 11-3). -/
def rejectPayload (route train kind : Nat) (reason : Reason) (tour entry : Nat) : List Byte :=
  trainPayload 4 route train ++ [byte kind, byte reason.code] ++ be16 tour ++ [byte entry]

/-- Refuse a train telegram; the tour and entry number are 0 but for a DELIVERED (R131). -/
def State.rejectTrain (s : State) (route train kind : Nat) (reason : Reason) : State :=
  s.emitTrain (rejectPayload route train kind reason 0 0)

/-- Refuse a DELIVERED (R131). -/
def State.rejectDelivered (s : State) (route train tour entry : Nat) (reason : Reason) : State :=
  s.emitTrain (rejectPayload route train kindDelivered reason tour entry)

/-! ## Binding (R110 to R116) -/

/-- The train bound to a route. -/
def State.boundTrain (s : State) (r : Nat) : Option Nat :=
  if r < Config.routeCount then (s.train r).binding.boundTrain else none

/-- The route drops to UNBOUND; the offer number is kept (R115, R116, R129, R130). -/
def State.unbind (s : State) (r : Nat) : State := s.modTrain r fun u => { u with binding := .unbound }

/-- Whether a train holds the offer or binding of another route (R112 check 2). -/
def State.holdsOther (s : State) (route train : Nat) : Bool :=
  (List.range Config.routeCount).any fun q => q != route && (s.train q).binding.trainId == some train

/-- Whether a route's binding lets a train check in: UNBOUND, or OFFERED to that train (R112 check 2). -/
def Binding.freeFor (b : Binding) (train : Nat) : Bool :=
  match b with
  | .unbound => true
  | .offered t _ _ => t == train
  | .bound _ _ _ => false

/-- The reason a CHECK_IN is refused for, if any: the first failing check of R112. -/
def State.checkInRefusal (s : State) (route train capacity : Nat) : Option Reason :=
  if ¬ (route < Config.routeCount ∧ (s.route route).enabled) then some .notEnabled
  else if ¬ ((s.train route).binding.freeFor train ∧ ¬ s.holdsOther route train) then some .bound
  else if ¬ (1 ≤ capacity ∧ capacity ≤ 48 ∧ (s.route route).waiting.all (fun t => t.entries.length ≤ capacity)) then
    some .capacity
  else none

/-- The offer number after another (R113). -/
def nextOffer (n : Nat) : Nat := if 255 ≤ n then 0 else n + 1

/-- The payload of a CHECK_OFFER (Table 11-3). -/
def offerPayload (route train offer tour stopCount : Nat) : List Byte :=
  trainPayload 1 route train ++ [byte offer] ++ be16 tour ++ [byte stopCount]

/-- Make an offer (R113). -/
def State.makeOffer (s : State) (route train capacity : Nat) : State :=
  let n := nextOffer (s.train route).offerNumber
  (s.modTrain route fun u =>
    { u with binding := .offered train capacity Config.offerTicks, offerNumber := n }).emitTrain
      (offerPayload route train n (((s.route route).waiting.head?.map Tour.number).getD 0) (s.route route).cfg.stopCount)

/-- TU takes a CHECK_IN (R112, R113). -/
def State.takeCheckIn (s : State) (route train capacity : Nat) : State :=
  match s.checkInRefusal route train capacity with
  | some reason => s.rejectTrain route train kindCheckIn reason
  | none => s.makeOffer route train capacity

/-- A matching accept binds the route; the backlog drains over it and a held head is checked (R114). -/
def State.bind (s : State) (route train capacity : Nat) : State :=
  ((s.modTrain route fun u => { u with binding := .bound train capacity .ready }).drain [route]).checkHeld route

/-- TU takes a CHECK_ACCEPT (R114). -/
def State.takeAccept (s : State) (route train offer : Nat) : State :=
  if route < Config.routeCount then
    match (s.train route).binding with
    | .offered t c _ =>
      if t = train ∧ (s.train route).offerNumber = offer then s.bind route t c
      else s.rejectTrain route train kindCheckAccept .offer
    | .bound t _ _ =>
      if t = train ∧ (s.train route).offerNumber = offer then s
      else s.rejectTrain route train kindCheckAccept .offer
    | .unbound => s.rejectTrain route train kindCheckAccept .offer
  else s.rejectTrain route train kindCheckAccept .offer

/-- TU takes a SIGN_OFF (R111, R116). -/
def State.takeSignOff (s : State) (route train : Nat) : State :=
  if route < Config.routeCount then
    match (s.train route).binding with
    | .offered t _ _ => if t = train then s.unbind route else s.rejectTrain route train kindSignOff .notBound
    | .bound t _ .ready => if t = train then s.unbind route else s.rejectTrain route train kindSignOff .notBound
    | .bound t _ .onTour =>
      s.rejectTrain route train kindSignOff (if t = train then .busy else .notBound)
    | .unbound => s.rejectTrain route train kindSignOff .notBound
  else s.rejectTrain route train kindSignOff .notBound

/-- The offer of a route lapses (R115). -/
def State.lapseOffer (s : State) (r : Nat) : State :=
  match (s.train r).binding with
  | .offered _ _ _ => s.unbind r
  | _ => s

/-! ## Presumption and confirmation (R119, R122, R124) -/

/-- The entries of a tour that a test picks become PRESUMED, each slot is credited, and PRESUMED_DELIVERY is raised when
there is one (R119 step 1, R122, R127 step 2). -/
def State.presume (s : State) (r : Nat) (t : Tour) (pick : Entry → Bool) : State :=
  let hit := t.entries.filter pick
  let s1 := s.modRunning r fun x =>
    { x with entries := x.entries.map fun e => if pick e then { e with state := .presumed } else e }
  let s2 := hit.foldl (fun x e => x.credit e.slot) s1
  if hit.isEmpty then s2 else s2.raise .presumedDelivery

/-- Whether an entry is AT_STOP at the current stop of its tour. -/
def Tour.awaits (t : Tour) (e : Entry) : Bool :=
  e.state == .atStop && t.currentStop == some (Int.ofNat e.stop)

/-- The confirmation timer of a route's running tour expires (R122). -/
def State.confirmationExpires (s : State) (r : Nat) : State :=
  match (s.route r).running with
  | none => s
  | some t =>
    if (s.train r).confirmTimer.isSome then
      (s.modTrain r fun u => { u with confirmTimer := none }).presume r t t.awaits
    else s

/-- The state a DELIVERED moves an entry to: CONFIRMED with a credit, or CONFIRMED_LATE without; `none` refuses it
(R124). -/
def EntryState.confirmedTo : EntryState → Option (EntryState × Bool)
  | .loaded | .atStop | .skipped => some (.confirmed, true)
  | .presumed => some (.confirmedLate, false)
  | _ => none

/-- A DELIVERED acts on an entry of the RUNNING tour (R124). -/
def State.confirm (s : State) (r : Nat) (t : Tour) (train tour number : Nat) : State :=
  match t.entries.find? (fun e => e.number == some number) with
  | none => s.rejectDelivered r train tour number .duplicate
  | some e =>
    match e.state.confirmedTo with
    | none => s.rejectDelivered r train tour number .duplicate
    | some (st, credited) =>
      let new := t.entries.map fun x => if x.number == some number then { x with state := st } else x
      let s1 := s.modRunning r fun x => { x with entries := new }
      let s2 := if credited then s1.credit e.slot else s1
      if e.state = .atStop ∧ new.all (fun x => !t.awaits x) then
        s2.modTrain r fun u => { u with confirmTimer := none }
      else s2

/-- TU takes a DELIVERED (R123, R137). -/
def State.takeDelivered (s : State) (route train tour number : Nat) : State :=
  if ¬ route < Config.routeCount then s.rejectDelivered route train tour number .notBound
  else
    match (s.route route).running.filter (fun t => t.number == tour) with
    | some t =>
      if s.boundTrain route = some train then s.confirm route t train tour number
      else s.rejectDelivered route train tour number .notBound
    | none =>
      match s.recordOf route tour with
      | some k =>
        match s.record k with
        | none => s
        | some rec =>
          if rec.train ≠ train then s.rejectDelivered route train tour number .notBound
          else
            match rec.pending.find? (fun p => p.number == number) with
            | some p => s.settleEntry k rec p
            | none => s.rejectDelivered route train tour number .duplicate
      | none =>
        s.rejectDelivered route train tour number (if s.boundTrain route = some train then .tourClosed else .notBound)

/-! ## Markers (R119 to R121) -/

/-- The entries of a tour as a pass of stop j leaves them, after the presumptions (R119 steps 2 and 3). -/
def passEntry (current : Int) (j : Nat) (e : Entry) : Entry :=
  if e.state = .loaded then
    if e.stop = j then { e with state := .atStop }
    else if current < Int.ofNat e.stop ∧ e.stop < j then { e with state := .skipped }
    else e
  else e

/-- The head of a STOP_LIST telegram and its items, read from the slot records at the pass (R121, Table 11-3). -/
def State.stopListPayload (s : State) (r train tour stop count : Nat) (group : List Entry) : List Byte :=
  trainPayload 3 r train ++ be16 tour ++ [byte stop, byte count]
    ++ group.flatMap fun e =>
      [byte (e.number.getD 0), byte (s.slot e.slot).config.rackStation, byte (s.slot e.slot).config.position]
        ++ be32 (s.slot e.slot).config.partTag

/-- Whether an entry stands before another in ascending entry number (R121). -/
def Entry.numberBefore (a b : Entry) : Bool := a.number.getD 0 < b.number.getD 0

/-- Send the STOP_LIST series of a stop: groups of up to 12 in ascending entry number, or one telegram with no items
(R121). -/
def State.sendStopList (s : State) (r train tour stop : Nat) (listed : List Entry) : State :=
  let sorted := sortOrdered Entry.numberBefore listed
  let groups := if sorted.isEmpty then [[]] else groupsOf 12 sorted.length sorted
  (groups.map (s.stopListPayload r train tour stop sorted.length)).foldl (fun x p => x.emitTrain p) s

/-- The running tour passes stop j, a later stop than its current one (R119). -/
def State.passStop (s : State) (r train : Nat) (t : Tour) (j : Nat) : State :=
  let current := t.currentStop.getD (-1)
  let s1 := (s.presume r t t.awaits).modTrain r fun u => { u with confirmTimer := none }
  let moved := (t.entries.map fun e => if t.awaits e then { e with state := .presumed } else e).map (passEntry current j)
  let listed := (t.entries.filter fun e => e.state == .loaded && e.stop == j).map (passEntry current j)
  let s2 := s1.modRunning r fun x => { x with entries := moved, currentStop := some (Int.ofNat j) }
  let changed := (t.entries.zip moved).filter fun p => p.1.state != p.2.state
  let s3 := (s2.reportAll (changed.map fun p => p.2.slot)).sendStopList r train t.number j listed
  if listed.isEmpty then s3 else s3.modTrain r fun u => { u with confirmTimer := t.window }

/-- TU takes a PASS (R111, R119, R120). -/
def State.takePass (s : State) (route train marker : Nat) : State :=
  if s.boundTrain route ≠ some train then s.rejectTrain route train kindPass .notBound
  else
    match (s.route route).running with
    | none => s.rejectTrain route train kindPass .tourClosed
    | some t =>
      match (t.stopList (s.route route)).find? (fun it => it.marker == marker) with
      | none => s.raise .markerError
      | some it =>
        if t.currentStop.getD (-1) < Int.ofNat it.stop then s.passStop route train t it.stop
        else s.raise .markerError

/-! ## Return (R127) -/

/-- Both timers of a route's running tour stop. -/
def State.stopTimers (s : State) (r : Nat) : State :=
  s.modTrain r fun u => { u with confirmTimer := none, silenceTimer := none }

/-- The running tour ends at the supermarket (R127 steps 1 to 4). -/
def State.endTour (s : State) (r : Nat) (t : Tour) : State :=
  let s1 := (s.stopTimers r).presume r t fun e => e.state == .atStop
  let s2 := (t.entries.filter fun e => e.state == .loaded || e.state == .skipped).foldl
    (fun x e => x.rollbackOrDrop .returned e) s1
  (s2.modRoute r fun ro => { ro with running := none }).modTrain r
    fun u => { u with binding := u.binding.withState .ready }

/-- TU takes a RETURN (R111, R127). -/
def State.takeReturn (s : State) (route train : Nat) : State :=
  if s.boundTrain route ≠ some train then s.rejectTrain route train kindReturn .notBound
  else
    match (s.route route).running with
    | none => s.rejectTrain route train kindReturn .tourClosed
    | some t => (s.endTour route t).checkHeld route

/-! ## Interruption (R129, R130) -/

/-- The running tour of a route is interrupted (R129). -/
def State.interrupt (s : State) (r : Nat) (t : Tour) (cause : Cause) : State :=
  let s1 := (s.stopTimers r).storeTour t r ((s.train r).binding.trainId.getD 0) cause
  ((s1.modRoute r fun ro => { ro with running := none }).unbind r).raise .tourInterrupted

/-- TU takes a FAULT (R111, R129, R130). -/
def State.takeFault (s : State) (route train code : Nat) : State :=
  if s.boundTrain route ≠ some train then s.rejectTrain route train kindFault .notBound
  else
    match (s.route route).running with
    | none => s.unbind route
    | some t => s.interrupt route t (.reported code)

/-- The silence timer of a route's running tour expires (R126). -/
def State.silenceExpires (s : State) (r : Nat) : State :=
  match (s.route r).running with
  | none => s
  | some t => if (s.train r).silenceTimer.isSome then s.interrupt r t .silent else s

/-! ## Signs of life (R126) -/

/-- A telegram of a train sets the silence timer of its running tour back to the limit (R126). -/
def State.heard (s : State) (train : Nat) : State :=
  (List.range Config.routeCount).foldl
    (fun x r =>
      match (x.route r).running with
      | some t =>
        if (x.train r).binding.boundTrain = some train ∧ t.limit.isSome then
          x.modTrain r fun u => { u with silenceTimer := t.limit }
        else x
      | none => x) s

/-- Whether a DELIVERED is passed to the Interrupted Tour Store (R123 case 2). -/
def State.passedToStore (s : State) (route tour : Nat) : Bool :=
  decide (route < Config.routeCount) && ((s.route route).running.filter fun t => t.number == tour).isNone
    && (s.recordOf route tour).isSome

end Sys2Proof.Machine
end

