-- ==== Sys2Proof/Machine/Line.lean ====
section
/-! DEFINITION. The Line Monitor: takt, stops, the due-time shift and pacing counts (R97 to R108). -/

namespace Sys2Proof.Machine

/-! ## The takt (R100) -/

/-- A reported takt clamped into 1 to 6000 (R100). -/
def clampTakt (n : Nat) : Nat := if n = 0 then 1 else min n 6000

/-! ## The shift (R104 to R107) -/

/-- Whether an order due at a time keeps its URGENT mark at a restart (R105). -/
def State.keepsUrgent (s : State) (slot due : Nat) : Bool := due ≤ satAdd s.pt (s.slot slot).config.margin

/-- A backlog order after a shift by d (R104, R105). -/
def State.shiftOrder (s : State) (d : Nat) (o : Order) : Order :=
  { o with due := satAdd o.due d, urgent := o.urgent && s.keepsUrgent o.slot (satAdd o.due d) }

/-- An entry after a shift by d; closed entries do not move (R104, R105). -/
def State.shiftEntry (s : State) (d : Nat) (e : Entry) : Entry :=
  if e.isOpen then { e with due := satAdd e.due d, urgent := e.urgent && s.keepsUrgent e.slot (satAdd e.due d) } else e

/-- A pending entry after a shift by d (R104, R105). -/
def State.shiftPending (s : State) (d : Nat) (p : Pending) : Pending :=
  { p with due := satAdd p.due d, urgent := p.urgent && s.keepsUrgent p.slot (satAdd p.due d) }

/-- A tour after a shift by d: its due times move, and its planned departure where it waits on a TAKT route; its LATE marks
are evaluated (R104, R105, R106). An entry whose arrival and due time both saturate is evaluated like any other, so that its
LATE clears (DESIGN CHOICE, log entry 25). -/
def State.shiftTour (s : State) (d : Nat) (ro : Route) (moves : Bool) (t : Tour) : Tour :=
  Tour.evaluate { t with entries := t.entries.map (s.shiftEntry d),
                         plannedDeparture := if moves then satAdd t.plannedDeparture d else t.plannedDeparture } ro

/-- A PLANNED tour whose entries are back in the order of R58 (R104). -/
def Tour.ordered (t : Tour) : Tour :=
  if t.state = .planned then { t with entries := sortOrdered Entry.before t.entries } else t

/-- A route's board after a shift by d, before PLANNED tours are put back in order. -/
def State.shiftRoute (s : State) (d : Nat) (ro : Route) : Route :=
  { ro with waiting := ro.waiting.map (s.shiftTour d ro (ro.cfg.timing == .takt)),
            running := ro.running.map (s.shiftTour d ro false) }

/-- The PLANNED tours of a route put back in order (R104). -/
def Route.ordered (ro : Route) : Route := { ro with waiting := ro.waiting.map Tour.ordered }

/-- A record after a shift by d, its pending entries in the order of R58 (R104). -/
def State.shiftRecord (s : State) (d : Nat) (rec : Record) : Record :=
  { rec with pending := sortOrdered Pending.before (rec.pending.map (s.shiftPending d)) }

/-- The slots of backlog orders and pending entries whose URGENT mark a shift by d clears (R106). -/
def State.urgentCleared (s : State) (d : Nat) : List Nat :=
  ((s.backlog.filter fun o => o.urgent && !s.keepsUrgent o.slot (satAdd o.due d)).map Order.slot)
    ++ ((s.liveRecords.flatMap Record.pending).filter
          fun p => p.urgent && !s.keepsUrgent p.slot (satAdd p.due d)).map Pending.slot

/-- The entries of every tour on every board, in route order. -/
def allEntries (routes : Vector Route 8) : List Entry := routes.toList.flatMap fun r => r.board.flatMap Tour.entries

/-- The shift by d > 0 ticks (R104 to R107): due times and TAKT departures move, URGENT clears, LATE is evaluated, the orders
of R58 and R81 are restored, and each slot whose order changed a mark is reported. -/
def State.shift (s : State) (d : Nat) : State :=
  let shifted := mapTable (s.shiftRoute d) s.routes
  let s1 := { s with
    backlog := sortOrdered Order.before (s.backlog.map (s.shiftOrder d)),
    routes := shifted,
    records := mapTable (Option.map (s.shiftRecord d)) s.records }
  let s2 := (s1.noteMarks (allEntries s.routes) (allEntries shifted)).reportAll (s.urgentCleared d)
  { s2 with routes := mapTable Route.ordered s2.routes }

/-! ## LINE telegrams (R100, R101) -/

/-- The line runs with a new takt (R100, R102). -/
def State.lineRuns (s : State) (takt : Nat) : State :=
  let s1 := { s with takt := clampTakt takt, taktReported := true }
  match s.lineState with
  | .stopped since =>
    let d := s.pt - since
    { (if d = 0 then s1 else s1.shift d) with lineState := .running }
  | _ => { s1 with lineState := .running }

/-- The line stands (R101). -/
def State.lineStops (s : State) : State :=
  match s.lineState with
  | .stopped _ => s
  | _ => { s with lineState := .stopped s.pt }

/-! ## Vehicles (R12, R13, R45, R103) -/

/-- One count goes to the timer of every TAKT route; the running ones fall by one, route by route (R45, R43). -/
def State.pacingCount (s : State) : State :=
  (List.range Config.routeCount).foldl
    (fun x r => if x.timerRuns r ∧ (x.route r).cfg.timing = .takt then x.countDown r else x) s

/-- Whether a COUNTED slot is consumed by a vehicle (R13). Bit k of model_mask stands for model code k (DESIGN CHOICE, log entry
24). -/
def Slot.consumedBy (sl : Slot) (station model : Nat) : Bool :=
  sl.config.inUse && sl.config.pullMode == .counted && sl.config.lineStation == station
    && sl.config.modelMask.getLsbD model

/-- One matching slot is consumed: P falls by u, and orders are raised down to the reorder point (R13). -/
def State.consume (s : State) (i : Nat) : State :=
  let s1 := (s.modSlot i fun sl => { sl with onHand := sl.onHand - sl.config.usage }).countsChanged i
  let sl := s1.slot i
  State.raiseToReorder i (sl.config.bins - sl.onOrder) sl.onHand s1

/-- The walk of the slot table for a new vehicle, in ascending index (R13). -/
def State.consumeAll (s : State) (station model : Nat) : State :=
  (List.range Config.slotCount).foldl (fun x i => if (x.slot i).consumedBy station model then x.consume i else x) s

/-- SU takes a VEHICLE telegram, and LM its pacing count (R12, R103). The whole is one event: lamps are derived after the last of
the routes it brings to a mark (DEDUCED, log entry 28). -/
def State.takeVehicle (s : State) (station model sequence : Nat) : State :=
  if ¬ (station < Config.lineStations ∧ model < 16) then s
  else if s.echo.getD station none = some sequence then s
  else
    let s1 := { s with echo := modifyAt s.echo station fun _ => some sequence }
    let s2 := s1.consumeAll station model
    if station = s2.lineConfig.pacingStation then s2.pacingCount else s2

end Sys2Proof.Machine
end

