-- ==== Sys2Proof/Machine/Pulls.lean ====
section
/-! DEFINITION. What SU does with a PULL of each kind (R9, R10, R11, R90), and what RU does with a PICK (R67 to R69). -/

namespace Sys2Proof.Machine

/-! ## Pulls -/

/-- Set F of a slot, and P to F × Q; a changed P brings R7 and a lamp derivation (R9, R10). -/
def State.setBins (s : State) (i bins : Nat) : State :=
  let s1 := s.modSlot i fun sl => { sl with fullBins := bins, onHand := bins * sl.config.pieces }
  if (s1.slot i).onHand = (s.slot i).onHand then s1 else s1.countsChanged i

/-- SU takes a BIN_EMPTY for a slot (R9, R22). -/
def State.takeBinEmpty (s : State) (i : Nat) : State :=
  let s1 := s.setBins i ((s.slot i).fullBins - 1)
  let sl := s1.slot i
  if sl.fullBins + sl.onOrder < sl.config.bins then (s1.raiseOrder i sl.onHand .pull).1
  else
    match sl.config.pullMode with
    | .signalled => s1.emitLamp i sl.lamp
    | .counted => s1

/-- SU takes a BIN_COUNT(n) for a slot (R10). -/
def State.takeBinCount (s : State) (i n : Nat) : State :=
  let s1 := s.setBins i (min n ((s.slot i).config.bins - (s.slot i).onOrder))
  let sl := s1.slot i
  State.raiseOrders i .resync (sl.config.bins - sl.onOrder - sl.fullBins) sl.onHand s1

/-- The newest backlog order of a slot (R90). -/
def State.newestBacklog (s : State) (i : Nat) : Option Order :=
  newestOf (fun a b => a.created < b.created || (a.created == b.created && a.creation < b.creation))
    (s.backlog.filter fun o => o.slot == i)

/-- The newest WAITING entry of a slot on a PLANNED tour of its route (R90). -/
def State.newestEntry (s : State) (i : Nat) : Option Entry :=
  newestOf (fun a b => a.created < b.created || (a.created == b.created && a.creation < b.creation))
    ((((s.route (s.slot i).config.route).waiting.filter fun t => t.state == .planned).flatMap Tour.entries).filter
      fun e => e.slot == i && e.state == .waiting)

/-- A backlog order is withdrawn (R11, R90). -/
def State.withdrawOrder (s : State) (o : Order) : State := { s with backlog := s.backlog.erase o }

/-- An entry of a PLANNED tour of a route is withdrawn (R11, R58, R90). -/
def State.withdrawEntry (s : State) (r : Nat) (e : Entry) : State :=
  s.modRoute r fun ro =>
    { ro with waiting := ro.waiting.map fun t =>
        if t.state = .planned then { t with entries := t.entries.erase e } else t }

/-- The order a CANCEL withdraws is gone: O falls by one (R11). -/
def State.orderWithdrawn (s : State) (i : Nat) : State :=
  (s.modSlot i fun sl => { sl with onOrder := sl.onOrder - 1 }).countsChanged i

/-- SU takes a CANCEL for a slot (R11, R90). -/
def State.takeCancel (s : State) (i : Nat) : State :=
  let r := (s.slot i).config.route
  match s.newestBacklog i, s.newestEntry i with
  | none, none => s.emitLamp i .cancelRefused
  | some o, none => (s.withdrawOrder o).orderWithdrawn i
  | none, some e => (s.withdrawEntry r e).orderWithdrawn i
  | some o, some e =>
    if o.created < e.created ∨ (o.created = e.created ∧ o.creation < e.creation) then
      (s.withdrawEntry r e).orderWithdrawn i
    else (s.withdrawOrder o).orderWithdrawn i

/-! ## The pick handshake -/

/-- PICK kind codes from the pick station (Table 11-4). -/
def kindPickStart : Nat := 3
def kindPickDone : Nat := 4
def kindPickShort : Nat := 5

/-- Refuse a PICK telegram, to the pick station (R67, R131, Table 11-4). -/
def State.rejectPick (s : State) (r tour kind : Nat) (reason : Reason) : State :=
  s.emit clsPick (s.route r).cfg.pickStation (pickPayload 6 r tour ++ [byte kind, byte reason.code])

/-- The head a PICK telegram matches: FROZEN, with the tour number named (R67). -/
def State.pickHead (s : State) (r tour : Nat) : Option Tour :=
  (s.route r).waiting.head?.filter fun h => h.state == .frozen && h.number == tour

/-- RU takes a PICK_START (R67, R68). -/
def State.takePickStart (s : State) (r tour : Nat) : State :=
  match s.pickHead r tour with
  | none => s.rejectPick r tour kindPickStart .tourClosed
  | some h => if h.pickState = some .ready then s.modHead r fun x => { x with pickState := some .picking } else s

/-- RU takes a PICK_DONE (R67, R68, R73). -/
def State.takePickDone (s : State) (r tour : Nat) : State :=
  match s.pickHead r tour with
  | none => s.rejectPick r tour kindPickDone .tourClosed
  | some h =>
    if h.pickState = some .picked then s
    else (s.modHead r fun x => { x with pickState := some .picked }).checkHeld r

/-- RU takes a PICK_SHORT; the alert is raised before the order returns (R67, R69; DEDUCED, log entry 14). -/
def State.takePickShort (s : State) (r tour number : Nat) : State :=
  match s.pickHead r tour with
  | none => s.rejectPick r tour kindPickShort .tourClosed
  | some h =>
    if h.pickState = some .picked then s.rejectPick r tour kindPickShort .tourClosed
    else
      match h.entries.find? (fun e => e.number == some number) with
      | none => s.rejectPick r tour kindPickShort .duplicate
      | some e =>
        let s1 := (s.modHead r fun x => { x with entries := x.entries.filter fun y => y.number != some number }).raise
          .pickShort
        (s1.rollbackOrDrop .pickShort e).drain [r]

/-- RU takes a PICK of any other kind: it is refused where it does not match the head, and else changes nothing (R67,
R173; DEDUCED, log entry 12). -/
def State.takePickOther (s : State) (r tour kind : Nat) : State :=
  match s.pickHead r tour with
  | none => s.rejectPick r tour kind .tourClosed
  | some _ => s

end Sys2Proof.Machine
end

