-- ==== Sys2Proof/Machine/Operands.lean ====
section
/-! DEFINITION. Telegrams as the blocks read them: the fields of each class and kind (Tables 11-2 to 11-6), the reading of
a payload into them, with what R173 says of a payload too short for its kind, and the payload of each. -/

namespace Sys2Proof.Machine

/-! ## Kinds -/

/-- A PULL by its kind; `other` is an unlisted kind, or a kind whose further fields are missing (R8, R173). -/
inductive PullOp where
  | binEmpty
  | binCount (n : Nat)
  | cancel
  | other
  deriving DecidableEq, Repr

/-- A LINE telegram; `other` is an unlisted kind or a payload too short (R99, R173). -/
inductive LineOp where
  | running (takt : Nat)
  | stopped
  | other
  deriving DecidableEq, Repr

/-- The fields of a VEHICLE telegram (Table 11-2). -/
structure VehicleReport where
  station : Nat
  model : Nat
  sequence : Nat
  deriving DecidableEq, Repr

/-- A TRAIN_UP by its kind, after route and train id (Table 11-3). -/
inductive TrainOp where
  | checkIn (capacity : Nat)
  | checkAccept (offer : Nat)
  | signOff
  | pass (marker : Nat)
  | delivered (tour entry : Nat)
  | trainReturn
  | trainFault (code : Nat)
  deriving DecidableEq, Repr

/-- A PICK from a pick station by its kind, after route and tour number (Table 11-4). -/
inductive PickOp where
  | start
  | done
  | short (entry : Nat)
  | other (kind : Nat)
  deriving DecidableEq, Repr

/-- The seventeen request kinds (Table 11-5). -/
inductive RequestKind where
  | identify
  | commission
  | decommission
  | start
  | halt
  | timeSet
  | tableWrite
  | tableRead
  | stateRead
  | routeEnable
  | routeDisable
  | routeReload
  | resolve
  | alertAck
  | save
  | restart
  | causeRead
  deriving DecidableEq, Repr

/-- The codes of the request kinds (Table 11-5). -/
def RequestKind.code : RequestKind → Nat
  | .identify => 1
  | .commission => 2
  | .decommission => 3
  | .start => 4
  | .halt => 5
  | .timeSet => 6
  | .tableWrite => 7
  | .tableRead => 8
  | .stateRead => 9
  | .routeEnable => 10
  | .routeDisable => 11
  | .routeReload => 12
  | .resolve => 13
  | .alertAck => 14
  | .save => 15
  | .restart => 16
  | .causeRead => 17

/-- The kind of a code, if it is one of the seventeen (R163). -/
def RequestKind.ofCode (n : Nat) : Option RequestKind :=
  match n with
  | 1 => some .identify
  | 2 => some .commission
  | 3 => some .decommission
  | 4 => some .start
  | 5 => some .halt
  | 6 => some .timeSet
  | 7 => some .tableWrite
  | 8 => some .tableRead
  | 9 => some .stateRead
  | 10 => some .routeEnable
  | 11 => some .routeDisable
  | 12 => some .routeReload
  | 13 => some .resolve
  | 14 => some .alertAck
  | 15 => some .save
  | 16 => some .restart
  | 17 => some .causeRead
  | _ => none

/-- A TABLE_WRITE by its table code (Table 11-6); `unknown` is an unlisted table code (R167). -/
inductive TableWrite where
  | slot (index : Nat) (record : SlotRecord)
  | route (index : Nat) (record : RouteRecord)
  | stops (route stop offset marker : Nat)
  | lineConfig (index pacingStation defaultTakt radioBridge : Nat)
  | alertMask (index enables : Nat)
  | unknown
  deriving DecidableEq, Repr

/-- A TABLE_READ by its table code (section 11.5). -/
inductive TableRead where
  | slot (index : Nat)
  | route (index : Nat)
  | stops (route stop : Nat)
  | lineConfig (index : Nat)
  | alertMask (index : Nat)
  | unknown
  deriving DecidableEq, Repr

/-- A STATE_READ by its state code (section 11.5). -/
inductive StateRead where
  | slot (index : Nat)
  | route (index fromTour fromEntry : Nat)
  | backlog (index : Nat)
  | record (index fromPart fromEntry : Nat)
  | line
  | part
  | unknown
  deriving DecidableEq, Repr

/-- A maintenance request that holds every field its kind needs (Table 11-5). -/
inductive Request where
  | identify
  | commission (serial station server : Nat)
  | decommission
  | start
  | halt
  | timeSet (time : Nat)
  | tableWrite (w : TableWrite)
  | tableRead (r : TableRead)
  | stateRead (r : StateRead)
  | routeEnable (route : Nat)
  | routeDisable (route : Nat)
  | routeReload (route : Nat)
  | resolve (record route tour disposition : Nat)
  | alertAck (flags : Nat)
  | save (autoStart : Nat)
  | restart
  | causeRead
  deriving DecidableEq, Repr

/-- A MAINT_REQ as MU reads it: the two bytes its reply repeats, its kind where listed, the unit serial LU reads in a
COMMISSION, and the request; `body` is `none` when the payload is shorter than its kind needs (R152, R162, R173). -/
structure MaintReq where
  kindByte : Byte
  numberByte : Byte
  kind : Option RequestKind
  serial : Option Nat
  body : Option Request
  deriving DecidableEq, Repr

/-- A telegram by its class. Fields LU reads for the disposition are options: absent when the payload ends before them
(R152 to R155). -/
inductive Telegram where
  | pull (position : Option Nat) (op : PullOp)
  /-- `none`: an unlisted kind or a payload too short, which SU and LM ignore (R173; DEDUCED, log entry 12). -/
  | vehicle (report : Option VehicleReport)
  | line (op : LineOp)
  /-- `tour` is the tour number of a DELIVERED; `body` holds the train id, and is `none` for an unlisted kind or a payload
  too short, which change nothing (R111, R173). -/
  | trainUp (kind : Nat) (route tour : Option Nat) (body : Option (Nat × TrainOp))
  /-- `body` holds the tour number; `none` for a payload too short (R173). -/
  | pick (route : Option Nat) (body : Option (Nat × PickOp))
  | maintReq (req : MaintReq)
  /-- LAMP, TRAIN_DOWN, MAINT_REPLY, ALERT and unknown classes (Table 9-1). -/
  | passing
  deriving DecidableEq, Repr

/-! ## Reading payloads (R173) -/

/-- Read a PULL payload. -/
def readPull : List Byte → Telegram
  | k :: p :: rest =>
    .pull (some p.toNat)
      (match k.toNat, rest with
        | 1, _ => .binEmpty
        | 2, n :: _ => .binCount n.toNat
        | 3, _ => .cancel
        | _, _ => .other)
  | _ => .pull none .other

/-- Read a VEHICLE payload. -/
def readVehicle : List Byte → Telegram
  | k :: st :: mo :: a :: b :: _ =>
    if k.toNat = 1 then .vehicle (some { station := st.toNat, model := mo.toNat, sequence := value16 a b })
    else .vehicle none
  | _ => .vehicle none

/-- Read a LINE payload. -/
def readLine : List Byte → Telegram
  | k :: rest =>
    .line (match k.toNat, rest with
      | 1, a :: b :: _ => .running (value16 a b)
      | 2, _ => .stopped
      | _, _ => .other)
  | _ => .line .other

/-- Read the fields of a TRAIN_UP after its train id. -/
def readTrainOp (kind : Nat) (rest : List Byte) : Option TrainOp :=
  match kind, rest with
  | 1, c :: _ => some (.checkIn c.toNat)
  | 2, o :: _ => some (.checkAccept o.toNat)
  | 3, _ => some .signOff
  | 4, m :: _ => some (.pass m.toNat)
  | 5, a :: b :: e :: _ => some (.delivered (value16 a b) e.toNat)
  | 6, _ => some .trainReturn
  | 7, c :: _ => some (.trainFault c.toNat)
  | _, _ => none

/-- Read a TRAIN_UP payload. -/
def readTrainUp : List Byte → Telegram
  | [] => .trainUp 0 none none none
  | [k] => .trainUp k.toNat none none none
  | [k, r] => .trainUp k.toNat (some r.toNat) none none
  | k :: r :: t :: rest =>
    .trainUp k.toNat (some r.toNat)
      (match k.toNat, rest with
        | 5, a :: b :: _ => some (value16 a b)
        | _, _ => none)
      ((readTrainOp k.toNat rest).map fun op => (t.toNat, op))

/-- Read the fields of a PICK after its tour number. -/
def readPickOp (kind : Nat) (rest : List Byte) : Option PickOp :=
  match kind, rest with
  | 3, _ => some .start
  | 4, _ => some .done
  | 5, e :: _ => some (.short e.toNat)
  | 5, [] => none
  | n, _ => some (.other n)

/-- Read a PICK payload. -/
def readPick : List Byte → Telegram
  | k :: r :: a :: b :: rest =>
    .pick (some r.toNat) ((readPickOp k.toNat rest).map fun op => (value16 a b, op))
  | _ :: r :: _ => .pick (some r.toNat) none
  | _ => .pick none none

/-- Read a SLOT record (Table 11-6). -/
def readSlotRecord : List Byte → Option SlotRecord
  | iu :: rs :: po :: t1 :: t2 :: t3 :: t4 :: ro :: st :: bi :: q1 :: q2 :: pm :: ls :: m1 :: m2 :: u :: s1 :: s2 :: r1
      :: r2 :: g1 :: g2 :: _ =>
    some { inUse := iu.toNat, rackStation := rs.toNat, position := po.toNat, partTag := value32 t1 t2 t3 t4,
           route := ro.toNat, stop := st.toNat, bins := bi.toNat, pieces := value16 q1 q2, pullMode := pm.toNat,
           lineStation := ls.toNat, modelMask := value16 m1 m2, usage := u.toNat, share := value16 s1 s2,
           reorderPoint := value16 r1 r2, margin := value16 g1 g2 }
  | _ => none

/-- Read a ROUTE record (Table 11-6). -/
def readRouteRecord : List Byte → Option RouteRecord
  | tm :: p1 :: p2 :: c1 :: c2 :: de :: bl :: po :: ps :: cc :: s1 :: s2 :: sc :: _ =>
    some { timingMode := tm.toNat, period := value16 p1 p2, cutoffLead := value16 c1 c2, depth := de.toNat,
           binLimit := bl.toNat, policy := po.toNat, pickStation := ps.toNat, confirmCode := cc.toNat,
           silenceLimit := value16 s1 s2, stopCount := sc.toNat }
  | _ => none

/-- Read a TABLE_WRITE after its table code (Tables 11-5 and 11-6). -/
def readTableWrite (code : Nat) (i1 i2 : Byte) (rest : List Byte) : Option TableWrite :=
  match code, rest with
  | 1, r => (readSlotRecord r).map (TableWrite.slot (value16 i1 i2))
  | 2, r => (readRouteRecord r).map (TableWrite.route (value16 i1 i2))
  | 3, a :: b :: m :: _ => some (.stops i1.toNat i2.toNat (value16 a b) m.toNat)
  | 3, _ => none
  | 4, p :: a :: b :: rb :: _ => some (.lineConfig (value16 i1 i2) p.toNat (value16 a b) rb.toNat)
  | 4, _ => none
  | 5, a :: b :: _ => some (.alertMask (value16 i1 i2) (value16 a b))
  | 5, _ => none
  | _, _ => some .unknown

/-- Read a TABLE_READ (Table 11-5). -/
def readTableRead (code : Nat) (i1 i2 : Byte) : TableRead :=
  match code with
  | 1 => .slot (value16 i1 i2)
  | 2 => .route (value16 i1 i2)
  | 3 => .stops i1.toNat i2.toNat
  | 4 => .lineConfig (value16 i1 i2)
  | 5 => .alertMask (value16 i1 i2)
  | _ => .unknown

/-- Read a STATE_READ (Table 11-5). -/
def readStateRead (code : Nat) (i1 i2 f1 f2 : Byte) : StateRead :=
  match code with
  | 1 => .slot (value16 i1 i2)
  | 2 => .route (value16 i1 i2) f1.toNat f2.toNat
  | 3 => .backlog (value16 i1 i2)
  | 4 => .record (value16 i1 i2) f1.toNat f2.toNat
  | 5 => .line
  | 6 => .part
  | _ => .unknown

/-- Read the fields of a request after its request number (Table 11-5); `none` when the payload is too short (R173). -/
def readRequest (kind : RequestKind) (rest : List Byte) : Option Request :=
  match kind, rest with
  | .identify, _ => some .identify
  | .commission, a :: b :: c :: d :: e :: f :: st :: sv :: _ =>
    some (.commission (value48 a b c d e f) st.toNat sv.toNat)
  | .commission, _ => none
  | .decommission, _ => some .decommission
  | .start, _ => some .start
  | .halt, _ => some .halt
  | .timeSet, a :: b :: c :: d :: _ => some (.timeSet (value32 a b c d))
  | .timeSet, _ => none
  | .tableWrite, code :: i1 :: i2 :: r => (readTableWrite code.toNat i1 i2 r).map Request.tableWrite
  | .tableWrite, _ => none
  | .tableRead, code :: i1 :: i2 :: _ => some (.tableRead (readTableRead code.toNat i1 i2))
  | .tableRead, _ => none
  | .stateRead, code :: i1 :: i2 :: f1 :: f2 :: _ => some (.stateRead (readStateRead code.toNat i1 i2 f1 f2))
  | .stateRead, _ => none
  | .routeEnable, r :: _ => some (.routeEnable r.toNat)
  | .routeEnable, _ => none
  | .routeDisable, r :: _ => some (.routeDisable r.toNat)
  | .routeDisable, _ => none
  | .routeReload, r :: _ => some (.routeReload r.toNat)
  | .routeReload, _ => none
  | .resolve, k :: r :: a :: b :: d :: _ => some (.resolve k.toNat r.toNat (value16 a b) d.toNat)
  | .resolve, _ => none
  | .alertAck, a :: b :: _ => some (.alertAck (value16 a b))
  | .alertAck, _ => none
  | .save, a :: _ => some (.save a.toNat)
  | .save, _ => none
  | .restart, _ => some .restart
  | .causeRead, _ => some .causeRead

/-- The unit serial LU reads in a COMMISSION request (R152, R155). -/
def readSerial (kind : Option RequestKind) (rest : List Byte) : Option Nat :=
  match kind, rest with
  | some .commission, a :: b :: c :: d :: e :: f :: _ => some (value48 a b c d e f)
  | _, _ => none

/-- Read a MAINT_REQ payload (Table 11-5). -/
def readMaintReq : List Byte → Telegram
  | [] => .maintReq { kindByte := Config.missingRequestByte 0, numberByte := Config.missingRequestByte 1, kind := none,
                      serial := none, body := none }
  | [k] => .maintReq { kindByte := k, numberByte := Config.missingRequestByte 1, kind := RequestKind.ofCode k.toNat,
                       serial := none, body := none }
  | k :: n :: rest =>
    let kind := RequestKind.ofCode k.toNat
    .maintReq { kindByte := k, numberByte := n, kind := kind, serial := readSerial kind rest,
                body := kind.bind fun x => readRequest x rest }

/-- Read a frame's payload by its class. -/
def readTelegram (f : Frame) : Telegram :=
  if f.cls = clsPull then readPull f.payload
  else if f.cls = clsVehicle then readVehicle f.payload
  else if f.cls = clsLine then readLine f.payload
  else if f.cls = clsTrainUp then readTrainUp f.payload
  else if f.cls = clsPick then readPick f.payload
  else if f.cls = clsMaintReq then readMaintReq f.payload
  else .passing

/-! ## Building payloads (Tables 11-2 to 11-6) -/

/-- The payload of a TRAIN_UP (Table 11-3). -/
def TrainOp.payload (route train : Nat) : TrainOp → List Byte
  | .checkIn c => trainPayload 1 route train ++ [byte c]
  | .checkAccept o => trainPayload 2 route train ++ [byte o]
  | .signOff => trainPayload 3 route train
  | .pass m => trainPayload 4 route train ++ [byte m]
  | .delivered t e => trainPayload 5 route train ++ be16 t ++ [byte e]
  | .trainReturn => trainPayload 6 route train
  | .trainFault c => trainPayload 7 route train ++ [byte c]

/-- The kind code of a TRAIN_UP (Table 11-3). -/
def TrainOp.kind : TrainOp → Nat
  | .checkIn _ => 1
  | .checkAccept _ => 2
  | .signOff => 3
  | .pass _ => 4
  | .delivered _ _ => 5
  | .trainReturn => 6
  | .trainFault _ => 7

/-- The payload of a PICK from a pick station (Table 11-4). -/
def PickOp.payload (route tour : Nat) : PickOp → List Byte
  | .start => pickPayload 3 route tour
  | .done => pickPayload 4 route tour
  | .short e => pickPayload 5 route tour ++ [byte e]
  | .other k => pickPayload k route tour

/-- The tour number LU reads in a TRAIN_UP payload: present in a DELIVERED alone. -/
def TrainOp.tour : TrainOp → Option Nat
  | .delivered t _ => some t
  | _ => none

/-- The bytes of a SLOT record (Table 11-6). -/
def slotRecordBytes (r : SlotRecord) : List Byte :=
  [byte r.inUse, byte r.rackStation, byte r.position] ++ be32 r.partTag ++ [byte r.route, byte r.stop, byte r.bins]
    ++ be16 r.pieces ++ [byte r.pullMode, byte r.lineStation] ++ be16 r.modelMask ++ [byte r.usage] ++ be16 r.share
    ++ be16 r.reorderPoint ++ be16 r.margin

/-- The bytes of a ROUTE record (Table 11-6). -/
def routeRecordBytes (r : RouteRecord) : List Byte :=
  [byte r.timingMode] ++ be16 r.period ++ be16 r.cutoffLead ++ [byte r.depth, byte r.binLimit, byte r.policy,
    byte r.pickStation, byte r.confirmCode] ++ be16 r.silenceLimit ++ [byte r.stopCount]

/-- The fields of a TABLE_WRITE after the request number (Tables 11-5 and 11-6). -/
def TableWrite.bytes : TableWrite → List Byte
  | .slot i r => [byte 1] ++ be16 i ++ slotRecordBytes r
  | .route i r => [byte 2] ++ be16 i ++ routeRecordBytes r
  | .stops r k o m => [byte 3, byte r, byte k] ++ be16 o ++ [byte m]
  | .lineConfig i p t b => [byte 4] ++ be16 i ++ [byte p] ++ be16 t ++ [byte b]
  | .alertMask i e => [byte 5] ++ be16 i ++ be16 e
  | .unknown => [byte 0, byte 0, byte 0]

/-- The fields of a TABLE_READ after the request number (Table 11-5). -/
def TableRead.bytes : TableRead → List Byte
  | .slot i => [byte 1] ++ be16 i
  | .route i => [byte 2] ++ be16 i
  | .stops r k => [byte 3, byte r, byte k]
  | .lineConfig i => [byte 4] ++ be16 i
  | .alertMask i => [byte 5] ++ be16 i
  | .unknown => [byte 0, byte 0, byte 0]

/-- The fields of a STATE_READ after the request number (Table 11-5); `index` and `fromField` stand in the two fields that a
state code without them carries. -/
def StateRead.bytes (index fromField : Nat) : StateRead → List Byte
  | .slot i => [byte 1] ++ be16 i ++ be16 fromField
  | .route i t e => [byte 2] ++ be16 i ++ [byte t, byte e]
  | .backlog i => [byte 3] ++ be16 i ++ be16 fromField
  | .record i p e => [byte 4] ++ be16 i ++ [byte p, byte e]
  | .line => [byte 5] ++ be16 index ++ be16 fromField
  | .part => [byte 6] ++ be16 index ++ be16 fromField
  | .unknown => [byte 0] ++ be16 index ++ be16 fromField

/-- The kind of a request. -/
def Request.kind : Request → RequestKind
  | .identify => .identify
  | .commission _ _ _ => .commission
  | .decommission => .decommission
  | .start => .start
  | .halt => .halt
  | .timeSet _ => .timeSet
  | .tableWrite _ => .tableWrite
  | .tableRead _ => .tableRead
  | .stateRead _ => .stateRead
  | .routeEnable _ => .routeEnable
  | .routeDisable _ => .routeDisable
  | .routeReload _ => .routeReload
  | .resolve _ _ _ _ => .resolve
  | .alertAck _ => .alertAck
  | .save _ => .save
  | .restart => .restart
  | .causeRead => .causeRead

/-- The fields of a request after the request number (Table 11-5). -/
def Request.bytes (index fromField : Nat) : Request → List Byte
  | .commission s st sv => be48 s ++ [byte st, byte sv]
  | .timeSet t => be32 t
  | .tableWrite w => w.bytes
  | .tableRead r => r.bytes
  | .stateRead r => r.bytes index fromField
  | .routeEnable r => [byte r]
  | .routeDisable r => [byte r]
  | .routeReload r => [byte r]
  | .resolve k r t d => [byte k, byte r] ++ be16 t ++ [byte d]
  | .alertAck f => be16 f
  | .save a => [byte a]
  | .identify => []
  | .decommission => []
  | .start => []
  | .halt => []
  | .restart => []
  | .causeRead => []

/-- The unit serial a request carries for LU (R152). -/
def Request.serial : Request → Option Nat
  | .commission s _ _ => some s
  | _ => none

end Sys2Proof.Machine
end

