-- ==== Sys2Proof/Machine/Store.lean ====
section
/-! DEFINITION. Start of the routes, the setting store, the resets and start-up (R53, R92, R165, R170 to R172). -/

namespace Sys2Proof.Machine

/-! ## Routes at START (R53, R92) -/

/-- The enabled routes in ascending index. -/
def State.enabledRoutes (s : State) : List Nat :=
  (List.range Config.routeCount).filter fun r => (s.route r).enabled

/-- The routes start as the part enters RUN: every enabled route appends its tours, one drain runs over them all, and each
head at or below its cutoff takes it (R92, R53). -/
def State.startRoutes (s : State) : State :=
  let routes := s.enabledRoutes
  routes.foldl State.cutoffIfDue ((routes.foldl State.appendTours s).drain routes)

/-! ## The image (R170) -/

/-- A copy of the settings as they stand, with an auto-start value (R170). -/
def State.imageOf (s : State) (autoStart : Bool) : Image :=
  { station := s.station.getD 0, server := s.server.getD 0, autoStart := autoStart,
    slots := mapTable Slot.config s.slots,
    routes := mapTable (fun r => r.config.map fun c => (c, r.stops, r.enabled)) s.routes,
    line := s.lineConfig, mask := s.mask }

/-- A route record as start-up loads it: count at the period, next tour number 1 (R39). -/
def Route.loaded : Option (RouteConfig × Vector StopEntry 24 × Bool) → Route
  | none => Route.blank
  | some (c, stops, enabled) =>
    { config := some c, stops := stops, enabled := enabled, count := c.period, nextTour := 1, waiting := [],
      running := none }

/-- Load an image into a part at its reset values; with auto-start the part enters RUN and its routes start
(R3, R39, R97, R98, R172). -/
def State.loadImage (s : State) (im : Image) : State :=
  let s1 := { s with
    station := some im.station, server := some im.server, slots := mapTable Slot.fresh im.slots,
    routes := mapTable Route.loaded im.routes, lineConfig := im.line, takt := im.line.defaultTakt, mask := im.mask,
    mode := if im.autoStart then .run else .setup }
  if im.autoStart then s1.startRoutes else s1

/-! ## Resets (R161, R171, R172) -/

/-- Every block at its reset values; kept through a reset are the unit serial, the setting store and STORE_INTERRUPTED, with
the pin and the model's own fields. -/
def State.cleared (s : State) (cause : ResetCause) : State :=
  { State.reset with
    serial := s.serial, cause := cause, storeInterrupted := s.storeInterrupted, store := s.store,
    resetLow := s.resetLow, draws := s.draws, pending := s.pending }

/-- Start-up acts by what it finds in the setting store (R172). -/
def State.startUp (s : State) : State :=
  match s.store with
  | .started => { s with storeInterrupted := true, store := .empty }
  | .valid im => s.loadImage im
  | .empty => s

/-- The reset a RESTART brings (R160, R172). -/
def State.commandReset (s : State) : State := (s.cleared .command).startUp

/-- A power-on reset; start-up waits while RESET_N is low (R171, R172). -/
def State.powerOn (s : State) : State :=
  let s1 := { s.cleared .power with storeInterrupted := false }
  if s.resetLow then s1 else s1.startUp

/-- RESET_N goes low: the part is reset and held (R172). -/
def State.pinLow (s : State) : State := if s.resetLow then s else { s.cleared .pin with resetLow := true }

/-- RESET_N is released: start-up begins (R172). -/
def State.pinReleased (s : State) : State := if s.resetLow then State.startUp { s with resetLow := false } else s

/-! ## No image (R165) -/

/-- The part as the completion of a DECOMMISSION leaves it, after its reply: former station number set, commission record
empty, every block in its no-image state, backlog and alert flags empty; the queues, the arbiter, PT and TIME_UNSET stay
(R165 steps 2 to 6). -/
def State.decommissioned (s : State) : State :=
  { s with
    formerStation := s.station, station := none, server := none, mode := .uncommissioned,
    slots := State.reset.slots, echo := State.reset.echo, reported := [], backlog := [], nextOrderId := 1,
    creationCount := 0, routes := State.reset.routes, trains := State.reset.trains, records := State.reset.records,
    lineConfig := LineConfig.default, lineState := .unknown, takt := LineConfig.default.defaultTakt,
    taktReported := false, mask := 0, flags := 0, store := .empty, storeOp := none }

end Sys2Proof.Machine
end

