-- ==== Sys2Proof/Machine/Tables.lean ====
section
/-! DEFINITION. Statuses, the checks and effects of the TABLE_WRITEs, and what a TABLE_READ returns
(R4, R5, R38, R40 to R42, R97, R162, R167, R169, R174). -/

namespace Sys2Proof.Machine

/-- Reply statuses (Table 10-1). -/
inductive Status where
  | ok
  | unknownKind
  | notServer
  | state
  | range
  | busy
  | slotBusy
  | routeBusy
  | duplicateKey
  | backlogSpace
  | noRecord
  | mismatch
  | notReady
  | locked
  deriving DecidableEq, Repr

/-- Status codes (Table 11-7). -/
def Status.code : Status → Nat
  | .ok => 0
  | .unknownKind => 1
  | .notServer => 2
  | .state => 3
  | .range => 4
  | .busy => 5
  | .slotBusy => 6
  | .routeBusy => 7
  | .duplicateKey => 8
  | .backlogSpace => 9
  | .noRecord => 10
  | .mismatch => 11
  | .notReady => 12
  | .locked => 13

/-! ## SLOT (R4, R5) -/

/-- Whether every field of a SLOT record lies within its range (Table 1-1, R4 step 1, R174). -/
def slotInRange (r : SlotRecord) : Bool :=
  decide (r.inUse ≤ 1 ∧ 1 ≤ r.rackStation ∧ r.rackStation ≤ 254 ∧ r.position ≤ 31 ∧ r.route ≤ 7 ∧ r.stop ≤ 23
    ∧ 1 ≤ r.bins ∧ r.bins ≤ 8 ∧ 1 ≤ r.pieces ∧ r.pieces ≤ 4095 ∧ r.pullMode ≤ 1 ∧ r.lineStation ≤ 63
    ∧ 1 ≤ r.usage ∧ r.usage ≤ 255 ∧ 1 ≤ r.share ∧ r.share ≤ 256 ∧ r.reorderPoint ≤ 65535 ∧ r.margin ≤ 36000
    ∧ (r.pullMode = 1 → r.modelMask ≠ 0))

/-- The static fields a SLOT record in range stands for (Table 11-6). -/
def slotConfigOf (r : SlotRecord) : SlotConfig :=
  { inUse := r.inUse == 1, rackStation := r.rackStation, position := r.position, partTag := r.partTag, route := r.route,
    stop := r.stop, bins := r.bins, pieces := r.pieces, pullMode := if r.pullMode = 1 then .counted else .signalled,
    lineStation := r.lineStation, modelMask := BitVec.ofNat 16 r.modelMask, usage := r.usage, share := r.share,
    reorderPoint := r.reorderPoint, margin := r.margin }

/-- Whether another in-use record than `i` carries a key (R4 step 3). -/
def State.keyElsewhere (s : State) (i station position : Nat) : Bool :=
  (List.range Config.slotCount).any fun j =>
    j != i && (s.slot j).config.inUse && (s.slot j).config.rackStation == station && (s.slot j).config.position == position

/-- The checks of a SLOT write, in order (R4). -/
def State.slotWriteStatus (s : State) (i : Nat) (r : SlotRecord) : Status :=
  if ¬ (i < Config.slotCount ∧ slotInRange r) then .range
  else if s.mode = .run ∧ (s.slot i).onOrder ≠ 0 then .slotBusy
  else if r.inUse = 1 ∧ s.keyElsewhere i r.rackStation r.position then .duplicateKey
  else .ok

/-- A taken SLOT write: in SETUP the slot's backlog orders are removed, and the record starts afresh (R5, R90). -/
def State.writeSlot (s : State) (i : Nat) (r : SlotRecord) : State :=
  State.modSlot { s with backlog := if s.mode = .setup then s.backlog.filter fun o => o.slot != i else s.backlog } i
    fun _ => Slot.fresh (slotConfigOf r)

/-! ## ROUTE and STOPS (R38, R40, R41) -/

/-- Whether the first n stored entries make a valid stop list: every one holds a marker, offsets do not decrease, markers are
distinct (R38). -/
def validStops (stops : Vector StopEntry 24) (n : Nat) : Bool :=
  (List.range n).all fun k =>
    (stopEntry stops k).marker.isSome
      && (List.range k).all fun j =>
          decide ((stopEntry stops j).offset ≤ (stopEntry stops k).offset)
            && (stopEntry stops j).marker != (stopEntry stops k).marker

/-- Whether every field of a ROUTE record lies within its range (Table 3-1, R40 step 1, R174). -/
def routeInRange (r : RouteRecord) : Bool :=
  decide (r.timingMode ≤ 1 ∧ (r.timingMode = 0 → 600 ≤ r.period ∧ r.period ≤ 36000)
    ∧ (r.timingMode = 1 → 1 ≤ r.period ∧ r.period ≤ 255) ∧ r.cutoffLead < r.period ∧ 1 ≤ r.depth ∧ r.depth ≤ 4
    ∧ 1 ≤ r.binLimit ∧ r.binLimit ≤ 48 ∧ r.policy ≤ 1 ∧ 1 ≤ r.pickStation ∧ r.pickStation ≤ 254 ∧ r.confirmCode ≤ 4
    ∧ (r.silenceLimit = 0 ∨ (300 ≤ r.silenceLimit ∧ r.silenceLimit ≤ 36000)) ∧ 1 ≤ r.stopCount ∧ r.stopCount ≤ 24)

/-- The static fields a ROUTE record in range stands for (Table 11-6). -/
def routeConfigOf (r : RouteRecord) : RouteConfig :=
  { timing := if r.timingMode = 1 then .takt else .fixed, period := r.period, cutoffLead := r.cutoffLead,
    depth := r.depth, binLimit := r.binLimit, policy := if r.policy = 1 then .latestFit else .earliest,
    pickStation := r.pickStation, confirmCode := r.confirmCode, silenceLimit := r.silenceLimit,
    stopCount := r.stopCount }

/-- The checks of a ROUTE write, in order (R40). -/
def State.routeWriteStatus (s : State) (i : Nat) (r : RouteRecord) : Status :=
  if ¬ (i < Config.routeCount ∧ routeInRange r ∧ validStops (s.route i).stops r.stopCount) then .range
  else if (s.route i).enabled then .routeBusy
  else .ok

/-- A taken ROUTE write (R40). -/
def State.writeRoute (s : State) (i : Nat) (r : RouteRecord) : State :=
  s.modRoute i fun ro => { ro with config := some (routeConfigOf r), count := r.period }

/-- The stop entries with one replaced. -/
def setStop (stops : Vector StopEntry 24) (k offset marker : Nat) : Vector StopEntry 24 :=
  modifyAt stops k fun _ => { offset := offset, marker := some marker }

/-- The checks of a STOPS write, in order (R41). -/
def State.stopsWriteStatus (s : State) (r k offset marker : Nat) : Status :=
  if ¬ (r < Config.routeCount ∧ k < Config.stopStorage ∧ offset ≤ 36000 ∧ 1 ≤ marker ∧ marker ≤ 255
      ∧ ((s.route r).config.isSome → k < (s.route r).cfg.stopCount →
          validStops (setStop (s.route r).stops k offset marker) (s.route r).cfg.stopCount)) then .range
  else if (s.route r).enabled then .routeBusy
  else .ok

/-- A taken STOPS write (R41). -/
def State.writeStop (s : State) (r k offset marker : Nat) : State :=
  s.modRoute r fun ro => { ro with stops := setStop ro.stops k offset marker }

/-! ## LINE_CONFIG and ALERT_MASK (R97, R169) -/

/-- The checks of a LINE_CONFIG write, in order (R97). -/
def State.lineWriteStatus (s : State) (pacing takt bridge : Nat) : Status :=
  if s.mode ≠ .setup then .state
  else if ¬ (pacing ≤ 63 ∧ 1 ≤ takt ∧ takt ≤ 6000 ∧ 1 ≤ bridge ∧ bridge ≤ 254) then .range
  else .ok

/-- A taken LINE_CONFIG write; T follows the default until a RUNNING telegram has been taken (R97). -/
def State.writeLine (s : State) (pacing takt bridge : Nat) : State :=
  { s with lineConfig := { pacingStation := pacing, defaultTakt := takt, radioBridge := bridge },
           takt := if s.taktReported then s.takt else takt }

/-- A write of the alert mask (R169). -/
def State.writeMask (s : State) (enables : Nat) : State := { s with mask := BitVec.ofNat 16 enables }

/-- Do a TABLE_WRITE when its checks pass; the status of the first that fails otherwise (R167). The index of LINE_CONFIG
and of ALERT_MASK is not read (DESIGN CHOICE, log entry 16). -/
def State.tableWrite (s : State) : TableWrite → State × Status
  | .slot i r => (if s.slotWriteStatus i r = .ok then s.writeSlot i r else s, s.slotWriteStatus i r)
  | .route i r => (if s.routeWriteStatus i r = .ok then s.writeRoute i r else s, s.routeWriteStatus i r)
  | .stops r k o m => (if s.stopsWriteStatus r k o m = .ok then s.writeStop r k o m else s, s.stopsWriteStatus r k o m)
  | .lineConfig _ p t b => (if s.lineWriteStatus p t b = .ok then s.writeLine p t b else s, s.lineWriteStatus p t b)
  | .alertMask _ e => (s.writeMask e, .ok)
  | .unknown => (s, .range)

/-! ## TABLE_READ (R42, R167, Table 11-6) -/

/-- The bytes of a slot record's static fields (Table 11-6). -/
def SlotConfig.bytes (c : SlotConfig) : List Byte :=
  [yesNo c.inUse, byte c.rackStation, byte c.position] ++ be32 c.partTag ++ [byte c.route, byte c.stop, byte c.bins]
    ++ be16 c.pieces ++ [yesNo (c.pullMode == .counted), byte c.lineStation] ++ be16 c.modelMask.toNat ++ [byte c.usage]
    ++ be16 c.share ++ be16 c.reorderPoint ++ be16 c.margin

/-- The bytes of a route record's static fields (Table 11-6). -/
def RouteConfig.bytes (c : RouteConfig) : List Byte :=
  [yesNo (c.timing == .takt)] ++ be16 c.period ++ be16 c.cutoffLead
    ++ [byte c.depth, byte c.binLimit, yesNo (c.policy == .latestFit), byte c.pickStation, byte c.confirmCode]
    ++ be16 c.silenceLimit ++ [byte c.stopCount]

/-- The bytes of a stop entry; marker 0 shows an unwritten one (Table 11-6). -/
def StopEntry.bytes (e : StopEntry) : List Byte := be16 e.offset ++ [byte (e.marker.getD 0)]

/-- The bytes of the line configuration (Table 11-6). -/
def LineConfig.bytes (c : LineConfig) : List Byte :=
  [byte c.pacingStation] ++ be16 c.defaultTakt ++ [byte c.radioBridge]

/-- The indexes of consecutive records from one on: at most `fit`, to the end of a table of `size`. -/
def consecutive (start fit size : Nat) : List Nat := (List.range (min fit (size - start))).map (start + ·)

/-- A record count and records. -/
def countedRecords (records : List (List Byte)) : List Byte := byte records.length :: records.flatten

/-- The data of a TABLE_READ reply: as many whole records as fit in the payload after its four header bytes; `none`
where the index is beyond the table or the table code unlisted (R42, R167). -/
def State.tableReadData (s : State) : TableRead → Option (List Byte)
  | .slot i =>
    if i < Config.slotCount then
      some (countedRecords ((consecutive i 5 Config.slotCount).map fun k => (s.slot k).config.bytes))
    else none
  | .route i =>
    if i < Config.routeCount then
      some (countedRecords ((consecutive i 8 Config.routeCount).map fun k => (s.route k).cfg.bytes))
    else none
  | .stops r k =>
    if r < Config.routeCount ∧ k < Config.stopStorage then
      some (countedRecords ((consecutive k 24 Config.stopStorage).map fun j => (stopEntry (s.route r).stops j).bytes))
    else none
  | .lineConfig i => if i = 0 then some (countedRecords [s.lineConfig.bytes]) else none
  | .alertMask i => if i = 0 then some (countedRecords [be16 s.mask.toNat]) else none
  | .unknown => none

end Sys2Proof.Machine
end

