-- ==== Sys2Proof/Machine/Reads.lean ====
section
/-! DEFINITION. What a STATE_READ returns (R2, R76, R96, R109, R110, R147, R167, Tables 11-10 and 11-11). -/

namespace Sys2Proof.Machine

/-! ## Codes (Table 11-11) -/

/-- Codes of the tour states. -/
def TourState.code : TourState → Nat
  | .planned => 0
  | .frozen => 1
  | .running => 2

/-- Codes of the entry states. -/
def EntryState.code : EntryState → Nat
  | .waiting => 0
  | .loaded => 1
  | .atStop => 2
  | .skipped => 3
  | .confirmed => 4
  | .presumed => 5
  | .confirmedLate => 6

/-- Code of a pick_state; absent is 0. -/
def pickStateCode : Option PickState → Nat
  | none => 0
  | some .ready => 1
  | some .picking => 2
  | some .picked => 3

/-- Codes of the origins. -/
def Origin.code : Origin → Nat
  | .pull => 1
  | .count => 2
  | .resync => 3
  | .pickShort => 4
  | .returned => 5
  | .dissolved => 6
  | .halted => 7

/-- Codes of the modes (section 11.5). -/
def Mode.code : Mode → Nat
  | .uncommissioned => 0
  | .setup => 1
  | .run => 2

/-- Codes of the reset causes (section 11.5). -/
def ResetCause.code : ResetCause → Nat
  | .power => 1
  | .pin => 2
  | .command => 3

/-- The confirm_code a window stands for (section 11.5). -/
def windowCode : Option Nat → Nat
  | some 300 => 1
  | some 600 => 2
  | some 1200 => 3
  | some 3000 => 4
  | _ => 0

/-- A marks byte: URGENT bit 0, LATE bit 1. -/
def marksByte (urgent late : Bool) : Byte := byte ((if urgent then 1 else 0) + (if late then 2 else 0))

/-- A current_stop: 0 when absent, FFh for −1 (section 11.5). -/
def currentStopByte : Option Int → Byte
  | none => 0
  | some (.ofNat k) => byte k
  | some (.negSucc _) => 0xFF

/-- The whole records that fit in a room of bytes, from the first on. -/
def takeFit : Nat → List (List Byte) → List (List Byte)
  | _, [] => []
  | room, x :: xs => if x.length ≤ room then x :: takeFit (room - x.length) xs else []

/-! ## Slots (R2) -/

/-- The flags byte of a slot: SHORT bit 0, LOST_ORDER bit 1, NOT_TAKEN bit 2. -/
def Slot.flagsByte (sl : Slot) : Byte :=
  byte ((if sl.shortFlag then 1 else 0) + (if sl.lostOrder then 2 else 0) + (if sl.notTaken then 4 else 0))

/-- A slot's dynamic fields with its index (Table 11-10). -/
def Slot.dynamicBytes (sl : Slot) (i : Nat) : List Byte :=
  be16 i ++ be16 sl.onHand ++ [byte sl.fullBins, byte sl.onOrder, sl.flagsByte, byte sl.lamp.code]

/-- The dynamic fields of consecutive slots, 14 at most. -/
def State.readSlots (s : State) (i : Nat) : List Byte :=
  countedRecords ((consecutive i 14 Config.slotCount).map fun k => (s.slot k).dynamicBytes k)

/-! ## Routes (R76, R110) -/

/-- Binding state, train id, capacity, train state, offer number and offer timer ticks left. -/
def TrainUnit.bytes (u : TrainUnit) : List Byte :=
  match u.binding with
  | .unbound => [0, 0, 0, 0, byte u.offerNumber, 0]
  | .offered t c left => [1, byte t, byte c, 0, byte u.offerNumber, byte left]
  | .bound t c .ready => [2, byte t, byte c, 1, byte u.offerNumber, 0]
  | .bound t c .onTour => [2, byte t, byte c, 2, byte u.offerNumber, 0]

/-- The offset and marker of each saved stop. -/
def savedStopBytes (items : List StopItem) : List Byte := items.flatMap fun it => be16 it.offset ++ [byte it.marker]

/-- A tour item (Table 11-10). -/
def Tour.itemBytes (t : Tour) (position : Nat) : List Byte :=
  [byte 0, byte position] ++ be16 t.number ++ [byte t.state.code] ++ be32 t.plannedDeparture
    ++ [yesNo t.held, byte t.slips, byte (pickStateCode t.pickState), currentStopByte t.currentStop,
        yesNo t.plan.isSome, byte t.resumeCount, byte t.entries.length]
    ++ (match t.plan with
        | none => [0, 0]
        | some p => [byte p.faultStop, byte p.stops.length] ++ savedStopBytes p.stops)

/-- An entry item (Table 11-10). -/
def Entry.itemBytes (e : Entry) : List Byte :=
  [byte 1] ++ be16 e.orderId ++ be16 e.slot ++ [byte e.stop] ++ be32 e.due
    ++ [marksByte e.urgent e.late, byte (e.number.getD 0), byte e.state.code]

/-- A tour's item and its entries' items. -/
def Tour.items (t : Tour) (position : Nat) : List (List Byte) := t.itemBytes position :: t.entries.map Entry.itemBytes

/-- The items of a board from a tour and an entry on: the tour item first when the entry named is 0; none when the tour or
the entry is not there (R167, section 11.5; DEDUCED, log entry 21). -/
def boardItems (board : List Tour) (tour entry : Nat) : List (List Byte) :=
  match board[tour]? with
  | none => []
  | some t =>
    if entry ≠ 0 ∧ t.entries.length ≤ entry then []
    else
      (if entry = 0 then t.items tour else (t.entries.drop entry).map Entry.itemBytes)
        ++ (board.zipIdx.drop (tour + 1)).flatMap fun c => c.1.items c.2

/-- The state of a route with its binding and tour board, from a tour and an entry on (R76, Table 11-10). -/
def State.readRoute (s : State) (r tour entry : Nat) : List Byte :=
  let ro := s.route r
  let items := takeFit 104 (boardItems ro.board tour entry)
  [yesNo ro.enabled] ++ be16 ro.count ++ be16 ro.nextTour ++ (s.train r).bytes
    ++ [byte ro.board.length, byte items.length] ++ items.flatten

/-! ## The backlog (R96) -/

/-- A backlog order with its position (Table 11-10). Its URGENT byte is coded as a yes/no byte (DESIGN CHOICE, log entry 26). -/
def Order.bytes (o : Order) (position : Nat) : List Byte :=
  [byte position] ++ be16 o.id ++ be32 o.creation ++ be16 o.slot ++ be32 o.due ++ [yesNo o.urgent, byte o.origin.code]
    ++ be32 o.created

/-- The backlog's header fields, then its orders from a position on, 5 at most. -/
def State.readBacklog (s : State) (position : Nat) : List Byte :=
  [byte s.backlog.length] ++ be16 s.nextOrderId ++ be32 s.creationCount
    ++ countedRecords (((s.backlog.zipIdx.drop position).take 5).map fun c => c.1.bytes c.2)

/-! ## Interrupted tour records (R147) -/

/-- The cause and fault code of a record. -/
def Cause.bytes : Cause → List Byte
  | .reported code => [1, byte code]
  | .silent => [2, 0]

/-- The fields of a live record (Table 11-10, "from" high byte 0). -/
def Record.fieldBytes (rec : Record) : List Byte :=
  [byte rec.route] ++ be16 rec.tour ++ [byte rec.train] ++ rec.cause.bytes ++ be32 rec.time
    ++ [byte rec.faultStop, byte (windowCode rec.window)] ++ be16 (rec.limit.getD 0)
    ++ [byte rec.resumeCount, byte rec.stops.length] ++ savedStopBytes rec.stops

/-- A pending entry (Table 11-10). -/
def Pending.bytes (p : Pending) : List Byte :=
  [byte p.number] ++ be16 p.orderId ++ be32 p.created ++ be16 p.slot ++ [byte p.stop] ++ be32 p.due
    ++ [marksByte p.urgent p.late]

/-- The pending entries of a live record from one on, 7 at most (Table 11-10, "from" high byte 1; DEDUCED, log
entry 22). -/
def Record.pendingBytes (rec : Record) (entry : Nat) : List Byte :=
  byte rec.pending.length :: countedRecords (((rec.pending.drop entry).take 7).map Pending.bytes)

/-- The part of a record that the "from" field names. Table 11-10 lists none for a high byte above 1; what is returned there
is free (DESIGN CHOICE, log entry 8). -/
def State.readRecord (s : State) (k part entry : Nat) : List Byte :=
  match s.record k with
  | none => [0]
  | some rec =>
    byte 1 :: (match part with
      | 0 => rec.fieldBytes
      | 1 => rec.pendingBytes entry
      | n => (Config.unstatedRecordRead k (n * 256 + entry)).take 116)

/-! ## The line and the part (R109, R167) -/

/-- State and stopped_since of the line. -/
def LineState.codeAndSince : LineState → Nat × Nat
  | .unknown => (0, 0)
  | .running => (1, 0)
  | .stopped since => (2, since)

/-- The line state (R109, Table 11-10). -/
def State.readLine (s : State) : List Byte :=
  [byte s.lineState.codeAndSince.1] ++ be16 s.takt ++ be32 s.lineState.codeAndSince.2 ++ [yesNo s.taktReported]

/-- The auto-start value of the store image; no when the store holds no valid image (R167). -/
def Store.autoStart : Store → Bool
  | .valid im => im.autoStart
  | _ => false

/-- The state of the part (R167, Table 11-10). -/
def State.readPart (s : State) : List Byte :=
  [byte s.mode.code] ++ be32 s.pt ++ [yesNo s.timeUnset] ++ be16 s.flags.toNat ++ be16 s.mask.toNat
    ++ [yesNo s.storeOp.isSome, yesNo s.store.autoStart]

/-! ## STATE_READ (R167) -/

/-- The data of a STATE_READ reply; `none` where the index names no object of the state code, or the code is unlisted
(R167). The index of LINE and of PART is not read (DESIGN CHOICE, log entry 17). -/
def State.stateReadData (s : State) : StateRead → Option (List Byte)
  | .slot i => if i < Config.slotCount then some (s.readSlots i) else none
  | .route r t e => if r < Config.routeCount then some (s.readRoute r t e) else none
  | .backlog i => if i < Config.backlogSize then some (s.readBacklog i) else none
  | .record k p e => if k < Config.recordCount then some (s.readRecord k p e) else none
  | .line => some s.readLine
  | .part => some s.readPart
  | .unknown => none

end Sys2Proof.Machine
end

