-- ==== Sys2Proof/Machine/Maintenance.lean ====
section
/-! DEFINITION. The Maintenance Unit: the checks every request passes, each request's own checks and effects, and the
replies (R48 to R52, R92 to R94, R139, R162 to R172). -/

namespace Sys2Proof.Machine

/-! ## Replies (R162) -/

/-- Where a reply goes and what it repeats of its request: the request's source, kind byte and request number (R162). -/
structure Caller where
  src : Nat
  kind : Byte
  number : Byte
  deriving DecidableEq, Repr

/-- Answer a request: a MAINT_REPLY with a status and data (R162, section 11.5). -/
def State.reply (s : State) (c : Caller) (st : Status) (data : List Byte) : State :=
  s.emit clsMaintReply c.src (c.kind :: c.number :: byte st.code :: data)

/-- The data a refusal carries: the unit serial, where the request is an IDENTIFY or a COMMISSION (Table 11-5, R173; DEDUCED,
log entry 15). -/
def State.refusalData (s : State) (k : RequestKind) : List Byte :=
  match k with
  | .identify | .commission => be48 s.serial
  | _ => []

/-! ## The checks that concern the part as a whole (R163) -/

/-- How a kind is refused in a mode, if it is (Table 10-2). UNCOMMISSIONED takes IDENTIFY and COMMISSION alone. -/
def RequestKind.modeRefusal (k : RequestKind) (m : Mode) : Option Status :=
  match m with
  | .uncommissioned =>
    match k with
    | .identify | .commission => none
    | _ => some .state
  | .setup =>
    match k with
    | .commission => some .locked
    | .halt => some .state
    | _ => none
  | .run =>
    match k with
    | .commission => some .locked
    | .decommission | .start | .timeSet | .save => some .state
    | _ => none

/-- The kinds refused with BUSY while a store operation runs (R163 step 4). -/
def RequestKind.waitsForStore : RequestKind → Bool
  | .tableWrite | .save | .decommission | .start => true
  | _ => false

/-- The status of the first of MU's checks that fails for a request of a listed kind, if any (R163 steps 2 to 4, then a
payload too short for its kind: R173; DEDUCED, log entry 13). -/
def State.maintRefusal (s : State) (src : Nat) (k : RequestKind) (whole : Bool) : Option Status :=
  if s.mode ≠ .uncommissioned ∧ k ≠ .identify ∧ s.server ≠ some src then some .notServer
  else
    match k.modeRefusal s.mode with
    | some st => some st
    | none =>
      if s.mode ≠ .uncommissioned ∧ s.storeOp.isSome ∧ k.waitsForStore then some .busy
      else if whole then none else some .range

/-! ## IDENTIFY, COMMISSION, DECOMMISSION (R164, R165) -/

/-- The data of an IDENTIFY reply (Table 11-5). -/
def State.identity (s : State) : List Byte :=
  be48 s.serial ++ [byte (s.station.getD 0), byte s.mode.code, yesNo s.timeUnset, byte s.cause.code,
    yesNo s.storeInterrupted]

/-- MU answers an IDENTIFY (R164). -/
def State.doIdentify (s : State) (c : Caller) : State := s.reply c .ok s.identity

/-- The checks of a COMMISSION in UNCOMMISSIONED (R164). -/
def commissionStatus (station server : Nat) : Status :=
  if station = 0 ∨ 255 ≤ station ∨ server = 0 ∨ 255 ≤ server ∨ station = server then .range else .ok

/-- MU takes a COMMISSION: the reply leaves with source 0, then the commission record is set and the part enters SETUP
(R164, R151). -/
def State.doCommission (s : State) (c : Caller) (station server : Nat) : State :=
  let s1 := s.reply c (commissionStatus station server) (be48 s.serial)
  if commissionStatus station server = .ok then
    { s1 with station := some station, server := some server, formerStation := none, mode := .setup }
  else s1

/-- MU starts a store operation: the start mark stands and no valid image exists from here on (R165, R170; DEDUCED, log entry
18). -/
def State.startStore (s : State) (c : Caller) (work : StoreWork) : State :=
  { s with store := .started, storeOp := some { work := work, replyTo := c.src, number := c.number.toNat, elapsed := 0 } }

/-- MU takes a DECOMMISSION; its reply waits for the end of the erase (R165). -/
def State.doDecommission (s : State) (c : Caller) : State := s.startStore c .erase

/-- The erase of the setting store ends (R165). -/
def State.eraseEnds (s : State) : State :=
  match s.storeOp with
  | some op =>
    match op.work with
    | .erase => (s.reply { src := op.replyTo, kind := byte 3, number := byte op.number } .ok []).decommissioned
    | .write _ => s
  | none => s

/-! ## Modes and the clock (R92 to R94, R166) -/

/-- MU takes a START (R92, R166). -/
def State.doStart (s : State) (c : Caller) : State := (State.startRoutes { s with mode := .run }).reply c .ok []

/-- The entries of every waiting tour of every route. -/
def State.waitingCount (s : State) : Nat :=
  ((List.range Config.routeCount).map fun r => (s.waitingEntries r).length).sum

/-- The checks of a HALT (R93). -/
def State.haltStatus (s : State) : Status :=
  if (List.range Config.routeCount).any (fun r => (s.route r).running.isSome) ∨ ¬ s.liveRecords.isEmpty then .routeBusy
  else if ¬ s.backlogRoom s.waitingCount then .backlogSpace
  else .ok

/-- A taken HALT: the part leaves RUN and every waiting tour is dissolved (R94). -/
def State.halted (s : State) : State :=
  (List.range Config.routeCount).foldl (fun x r => x.dissolve .halted r) { s with mode := .setup }

/-- MU takes a HALT (R93, R94). -/
def State.doHalt (s : State) (c : Caller) : State :=
  (if s.haltStatus = .ok then s.halted else s).reply c s.haltStatus []

/-- The line state as a TIME_SET leaves it (R108). -/
def LineState.atTime (l : LineState) (t : Nat) : LineState :=
  match l with
  | .stopped _ => .stopped t
  | x => x

/-- The clock is set (R108, R166). -/
def State.setTime (s : State) (t : Nat) : State :=
  let s1 := { s with pt := t, timeUnset := false, lineState := s.lineState.atTime t }
  if t = ptMax then s1.raise .timeSaturated else s1

/-- MU takes a TIME_SET (R166). -/
def State.doTimeSet (s : State) (c : Caller) (t : Nat) : State := (s.setTime t).reply c .ok []

/-! ## Tables and state (R167) -/

/-- MU hands a TABLE_WRITE to the owner of the table (R167). -/
def State.doTableWrite (s : State) (c : Caller) (w : TableWrite) : State :=
  (s.tableWrite w).1.reply c (s.tableWrite w).2 []

/-- Answer a read: its data, or RANGE (R162, R167). -/
def State.replyRead (s : State) (c : Caller) (data : Option (List Byte)) : State :=
  match data with
  | some d => s.reply c .ok d
  | none => s.reply c .range []

/-- MU hands a TABLE_READ to the owner of the table (R167). -/
def State.doTableRead (s : State) (c : Caller) (r : TableRead) : State := s.replyRead c (s.tableReadData r)

/-- MU hands a STATE_READ to the owner of the state (R167). -/
def State.doStateRead (s : State) (c : Caller) (r : StateRead) : State := s.replyRead c (s.stateReadData r)

/-! ## Routes (R48 to R52) -/

/-- The checks of a ROUTE_ENABLE and of a ROUTE_RELOAD (R48, R50). -/
def State.routeStatus (s : State) (r : Nat) : Status :=
  if ¬ r < Config.routeCount then .range
  else if (s.route r).config.isNone then .state
  else .ok

/-- A route is enabled; in RUN its tours are appended, the backlog drains and its head is checked (R50). -/
def State.enableRoute (s : State) (r : Nat) : State :=
  if (s.route r).enabled then s
  else
    let s1 := s.modRoute r fun ro => { ro with enabled := true }
    if s.mode = .run then s1.afterHead r else s1

/-- RU takes a ROUTE_ENABLE (R50). -/
def State.doRouteEnable (s : State) (c : Caller) (r : Nat) : State :=
  (if s.routeStatus r = .ok then s.enableRoute r else s).reply c (s.routeStatus r) []

/-- The checks of a ROUTE_DISABLE (R51). -/
def State.disableStatus (s : State) (r : Nat) : Status :=
  if ¬ r < Config.routeCount then .range
  else if (s.route r).running.isSome ∨ ((s.route r).waiting.head?.any Tour.held) then .routeBusy
  else if ¬ s.backlogRoom (s.waitingEntries r).length then .backlogSpace
  else .ok

/-- The train of a disabled route is released: REJECT(NOT_ENABLED) with refused kind 0, and the binding drops to UNBOUND
(R52, Table 11-3). -/
def State.releaseTrain (s : State) (r : Nat) : State :=
  match (s.train r).binding.trainId with
  | some t => (s.rejectTrain r t 0 .notEnabled).unbind r
  | none => s

/-- A route is disabled: its waiting tours are dissolved, its timer holds and its train is released (R52). -/
def State.disableRoute (s : State) (r : Nat) : State :=
  if (s.route r).enabled then
    ((s.dissolve .dissolved r).modRoute r fun ro => { ro with enabled := false }).releaseTrain r
  else s

/-- RU takes a ROUTE_DISABLE (R51, R52). -/
def State.doRouteDisable (s : State) (c : Caller) (r : Nat) : State :=
  (if s.disableStatus r = .ok then s.disableRoute r else s).reply c (s.disableStatus r) []

/-- The planned departure a reload gives the waiting tour at a position (Table of R49). -/
def rebased (now period unit : Nat) (held : Bool) (k : Nat) (t : Tour) : Nat :=
  if held then (if k = 0 then t.plannedDeparture else satAdd now (k * period * unit))
  else satAdd now ((k + 1) * period * unit)

/-- A route's count is set to its period; in RUN the waiting tours of an enabled route are re-based on it (R48, R49). -/
def State.reloadRoute (s : State) (r : Nat) : State :=
  let s1 := s.modRoute r fun ro => { ro with count := ro.cfg.period }
  if s.mode = .run ∧ (s.route r).enabled then
    s1.retimeTours r (rebased s.pt (s.route r).cfg.period (s.unit r) ((s.route r).waiting.head?.any Tour.held))
  else s1

/-- RU takes a ROUTE_RELOAD (R48, R49). -/
def State.doRouteReload (s : State) (c : Caller) (r : Nat) : State :=
  (if s.routeStatus r = .ok then s.reloadRoute r else s).reply c (s.routeStatus r) []

/-! ## RESOLVE (R139) -/

/-- The checks of a RESOLVE: disposition 1 is DISSOLVE, 2 is RESUME (R139, Table 11-5). -/
def State.resolveStatus (s : State) (k route tour disposition : Nat) : Status :=
  match s.record k with
  | none => .noRecord
  | some rec =>
    if ¬ (rec.route = route ∧ rec.tour = tour) then .mismatch
    else if disposition = 1 then (if s.backlogRoom rec.pending.length then .ok else .backlogSpace)
    else if disposition = 2 then
      (if (s.train rec.route).binding.isReady ∧ (s.route rec.route).running.isNone then .ok else .notReady)
    else .range

/-- A taken RESOLVE (R140, R141). -/
def State.resolveRecord (s : State) (k disposition : Nat) : State :=
  match s.record k with
  | none => s
  | some rec => if disposition = 1 then s.dissolveRecord k rec else s.resumeRecord k rec

/-- ITS takes a RESOLVE (R139 to R141). -/
def State.doResolve (s : State) (c : Caller) (k route tour disposition : Nat) : State :=
  (if s.resolveStatus k route tour disposition = .ok then s.resolveRecord k disposition else s).reply c
    (s.resolveStatus k route tour disposition) []

/-! ## Alerts, the store and the resets (R169 to R172) -/

/-- Clear the named flags (R169). -/
def State.ackFlags (s : State) (named : Nat) : State := { s with flags := s.flags &&& ~~~ (BitVec.ofNat 16 named) }

/-- MU takes an ALERT_ACK (R169). -/
def State.doAlertAck (s : State) (c : Caller) (named : Nat) : State := (s.ackFlags named).reply c .ok []

/-- MU takes a SAVE: a copy of the settings is made now; the reply waits for the end of the operation. An auto-start value
that is neither yes nor no is refused (R170, R174). -/
def State.doSave (s : State) (c : Caller) (autoStart : Nat) : State :=
  if autoStart ≤ 1 then s.startStore c (.write (s.imageOf (autoStart == 1))) else s.reply c .range []

/-- The store operation of a SAVE ends (R170). -/
def State.saveEnds (s : State) : State :=
  match s.storeOp with
  | some op =>
    match op.work with
    | .write im =>
      (State.reply { s with store := .valid im, storeOp := none }
        { src := op.replyTo, kind := byte 15, number := byte op.number } .ok []).raise .saveDone
    | .erase => s
  | none => s

/-- MU takes a RESTART: the reset comes when the reply has left, or at once when LU discards the reply (R172). -/
def State.doRestart (s : State) (c : Caller) : State := if s.emitRoom then s.reply c .ok [] else s.commandReset

/-- MU takes a CAUSE_READ: both fields are returned, and STORE_INTERRUPTED is cleared (R171). -/
def State.doCauseRead (s : State) (c : Caller) : State :=
  { s.reply c .ok [byte s.cause.code, yesNo s.storeInterrupted] with storeInterrupted := false }

/-! ## Requests (R162, R163) -/

/-- Carry out a request that has passed MU's checks. -/
def State.carryOut (s : State) (c : Caller) : Request → State
  | .identify => s.doIdentify c
  | .commission _ station server => s.doCommission c station server
  | .decommission => s.doDecommission c
  | .start => s.doStart c
  | .halt => s.doHalt c
  | .timeSet t => s.doTimeSet c t
  | .tableWrite w => s.doTableWrite c w
  | .tableRead r => s.doTableRead c r
  | .stateRead r => s.doStateRead c r
  | .routeEnable r => s.doRouteEnable c r
  | .routeDisable r => s.doRouteDisable c r
  | .routeReload r => s.doRouteReload c r
  | .resolve k r t d => s.doResolve c k r t d
  | .alertAck f => s.doAlertAck c f
  | .save a => s.doSave c a
  | .restart => s.doRestart c
  | .causeRead => s.doCauseRead c

/-- MU takes a request that LU hands it: it answers with the status of the first check that fails, or carries it out
(R162, R163, R173). -/
def State.serve (s : State) (src : Nat) (q : MaintReq) : State :=
  let c : Caller := { src := src, kind := q.kindByte, number := q.numberByte }
  match q.kind with
  | none => s.reply c .unknownKind []
  | some k =>
    match s.maintRefusal src k q.body.isSome with
    | some st => s.reply c st (s.refusalData k)
    | none =>
      match q.body with
      | some b => s.carryOut c b
      | none => s

end Sys2Proof.Machine
end

