-- ==== Sys2Proof/Machine/Receive.lean ====
section
/-! DEFINITION. The disposition of a received frame: stripped, handed to its block, forwarded, or both (R150 to R156). -/

namespace Sys2Proof.Machine

/-! ## Stripping (R151) -/

/-- Whether a frame is the part's own answer to an IDENTIFY or a COMMISSION, given with source 0: a MAINT_REPLY whose payload
carries the part's unit serial at offsets 3 to 8 (R151, R173). -/
def State.ownAnswer (s : State) (f : Frame) : Bool :=
  f.cls == clsMaintReply && f.src == 0 &&
    match f.payload with
    | k :: _ :: _ :: a :: b :: c :: d :: e :: g :: _ => (k == 1 || k == 2) && value48 a b c d e g == s.serial
    | _ => false

/-- Whether LU strips a frame (R151). -/
def State.strips (s : State) (f : Frame) : Bool :=
  s.ownAnswer f
    || (match s.mode with
        | .uncommissioned => s.formerStation == some f.src
        | _ => s.station == some f.src)

/-! ## What LU takes (R152 to R155) -/

/-- Whether TU takes a TRAIN_UP frame, by the payload fields LU reads (R153). -/
def State.takesTrainUp (s : State) (f : Frame) (kind : Nat) (route tour : Option Nat) : Bool :=
  s.lineConfig.radioBridge != 0 && f.src == s.lineConfig.radioBridge &&
    (s.station == some f.dst ||
      (f.dst == 255 &&
        match route with
        | none => false
        | some r =>
          decide (r < Config.routeCount) &&
            ((kind == kindCheckIn && (s.route r).enabled) || (s.train r).binding != .unbound ||
              (kind == kindDelivered && tour.any fun t => (s.recordOf r t).isSome))))

/-- Whether RU takes a PICK frame (R154). -/
def State.takesPick (s : State) (f : Frame) (route : Option Nat) : Bool :=
  (s.station == some f.dst || f.dst == 255) &&
    match route with
    | none => false
    | some r =>
      decide (r < Config.routeCount) && (s.route r).config.isSome && (s.route r).cfg.pickStation == f.src

/-- Whether a broadcast MAINT_REQ concerns this part: an IDENTIFY, or a COMMISSION that carries its unit serial (R152,
R155). -/
def State.broadcastConcerns (s : State) (q : MaintReq) : Bool :=
  q.kind == some .identify || (q.kind == some .commission && q.serial == some s.serial)

/-! ## Handing on (R156) -/

/-- SU takes a PULL for a slot by its kind; another kind changes nothing (R8). -/
def State.takePull (s : State) (i : Nat) : PullOp → State
  | .binEmpty => s.takeBinEmpty i
  | .binCount n => s.takeBinCount i n
  | .cancel => s.takeCancel i
  | .other => s

/-- SU takes a VEHICLE telegram; one it cannot read is ignored (R12, R173). -/
def State.takeReport (s : State) : Option VehicleReport → State
  | some v => s.takeVehicle v.station v.model v.sequence
  | none => s

/-- LM takes a LINE telegram by its kind; another kind changes nothing (R99). -/
def State.takeLine (s : State) : LineOp → State
  | .running takt => s.lineRuns takt
  | .stopped => s.lineStops
  | .other => s

/-- TU takes a TRAIN_UP of a route and train by its kind (R111). -/
def State.takeTrainOp (s : State) (route train : Nat) : TrainOp → State
  | .checkIn c => s.takeCheckIn route train c
  | .checkAccept o => s.takeAccept route train o
  | .signOff => s.takeSignOff route train
  | .pass m => s.takePass route train m
  | .delivered t e => s.takeDelivered route train t e
  | .trainReturn => s.takeReturn route train
  | .trainFault c => s.takeFault route train c

/-- The state once a taken TRAIN_UP has set back the silence timer of its train's running tour: not by a DELIVERED that goes
to the Interrupted Tour Store (R126). -/
def State.hears (s : State) (route train : Nat) (op : TrainOp) : State :=
  match op with
  | .delivered t _ => if s.passedToStore route t then s else s.heard train
  | _ => s.heard train

/-- TU takes a TRAIN_UP; an unlisted kind, a payload too short and a train id of 0 or 255 change nothing (R111, R173; DEDUCED,
log entry 11). -/
def State.takeTrainUp (s : State) (route : Nat) (body : Option (Nat × TrainOp)) : State :=
  match body with
  | some (train, op) =>
    if train = 0 ∨ 255 ≤ train then s else (s.hears route train op).takeTrainOp route train op
  | none => s

/-- RU takes a PICK by its kind (R67). -/
def State.takePickOp (s : State) (route tour : Nat) : PickOp → State
  | .start => s.takePickStart route tour
  | .done => s.takePickDone route tour
  | .short e => s.takePickShort route tour e
  | .other k => s.takePickOther route tour k

/-- RU takes a PICK; a payload too short changes nothing (R67, R173). -/
def State.takePick (s : State) (route : Nat) (body : Option (Nat × PickOp)) : State :=
  match body with
  | some (tour, op) => s.takePickOp route tour op
  | none => s

/-! ## Disposition (R152, R155, Table 9-1) -/

/-- The disposition of a frame that is not stripped, in SETUP and RUN (Table 9-1, R153, R154). A frame both taken and
forwarded is first offered to the forward queue (R156). -/
def State.dispose (s : State) (f : Frame) : Telegram → State
  | .pull position op =>
    match position.bind (s.slotWithKey f.src) with
    | some i => s.takePull i op
    | none => s.forward f
  | .vehicle report => (s.forward f).takeReport report
  | .line op => (s.forward f).takeLine op
  | .trainUp kind route tour body =>
    if s.takesTrainUp f kind route tour then s.takeTrainUp (route.getD 0) body else s.forward f
  | .pick route body => if s.takesPick f route then s.takePick (route.getD 0) body else s.forward f
  | .maintReq q =>
    if s.station = some f.dst then s.serve f.src q
    else if f.dst = 255 ∧ s.broadcastConcerns q then (s.forward f).serve f.src q
    else s.forward f
  | .passing => s.forward f

/-- The disposition of a frame that is not stripped, in UNCOMMISSIONED (R155). -/
def State.disposeBare (s : State) (f : Frame) : Telegram → State
  | .maintReq q => if f.dst = 255 ∧ s.broadcastConcerns q then (s.forward f).serve f.src q else s.forward f
  | _ => s.forward f

/-- A frame that passed the check of R150 arrives, with its telegram as the blocks read it. While RESET_N holds the part in
reset it is lost (R161, R172). The event ends with the derivation of the lamps it reported (R19). -/
def State.receive (s : State) (f : Frame) (t : Telegram) : State :=
  if s.resetLow then s
  else if s.strips f then s
  else if s.mode = .uncommissioned then (s.disposeBare f t).settleLamps
  else (s.dispose f t).settleLamps

/-- A frame ends on ring-in: it is discarded with CHECK_ERROR, or disposed of (R150). -/
def State.receiveBytes (s : State) (bytes : List Byte) : State :=
  match Frame.parse bytes with
  | some f => s.receive f (readTelegram f)
  | none => if s.resetLow then s else s.raise .checkError

/-! ## Telegrams as commands -/

/-- A telegram of a class arrives in a whole frame: its addressing, payload and fields. -/
def State.hear (s : State) (cls : Nat) (hop : Hop) (payload : List Byte) (t : Telegram) : State :=
  s.receive (Frame.make cls hop.dst hop.src payload) t

/-- A TRAIN_UP of a route and train arrives. -/
def State.hearTrain (s : State) (hop : Hop) (route train : Nat) (op : TrainOp) : State :=
  s.hear clsTrainUp hop (op.payload route train) (.trainUp op.kind (some route) op.tour (some (train, op)))

/-- A PICK of a route and tour arrives. -/
def State.hearPick (s : State) (hop : Hop) (route tour : Nat) (op : PickOp) : State :=
  s.hear clsPick hop (op.payload route tour) (.pick (some route) (some (tour, op)))

/-- What MU reads of a whole request. -/
def Request.read (r : Request) (number : Nat) : MaintReq :=
  { kindByte := byte r.kind.code, numberByte := byte number, kind := some r.kind, serial := r.serial, body := some r }

/-- The payload of a whole request; `index` and `fromField` are the two fields of a STATE_READ that its state code does not
read (Table 11-5). -/
def Request.payload (r : Request) (number index fromField : Nat) : List Byte :=
  byte r.kind.code :: byte number :: r.bytes index fromField

/-- A MAINT_REQ arrives whole. -/
def State.hearRequest (s : State) (env : Envelope) (index fromField : Nat) (r : Request) : State :=
  s.hear clsMaintReq { dst := env.dst, src := env.src } (r.payload env.number index fromField)
    (.maintReq (r.read env.number))

end Sys2Proof.Machine
end

