-- ==== Sys2Proof/Machine/LineCommands.lean ====
section
/-! DEFINITION. Commands of the line controller: the VEHICLE and LINE telegrams. -/

namespace Sys2Proof.Machine

/-- VEHICLE (R12, R13, R45). -/
def execVehicle (hop : Hop) (station model sequence : Nat) (s : State) : Host.Outcome State Fault Refusal :=
  .next (s.hear clsVehicle hop ([byte 1, byte station, byte model] ++ be16 sequence)
    (.vehicle (some { station := station, model := model, sequence := sequence })))

/-- LINE_RUNNING (R100, R102, R104 to R107). -/
def execLineRunning (hop : Hop) (takt : Nat) (s : State) : Host.Outcome State Fault Refusal :=
  .next (s.hear clsLine hop (byte 1 :: be16 takt) (.line (.running takt)))

/-- LINE_STOPPED (R101). -/
def execLineStopped (hop : Hop) (s : State) : Host.Outcome State Fault Refusal :=
  .next (s.hear clsLine hop [byte 2] (.line .stopped))

end Sys2Proof.Machine
end

