-- ==== Sys2Proof/Machine/Clock.lean ====
section
/-! DEFINITION. Time-driven events: the marks of counts and timers, as commands bring them about and as one tick of the
oscillator does (R43 to R47, R115, R122, R126, R165, R166, R170). -/

namespace Sys2Proof.Machine

/-! ## Marks that a command brings about (DESIGN CHOICE, log entry 4) -/

/-- The count of a running timer reaches cutoff_lead (R46); where cutoff_lead is 0 that is the departure due (R47). A count
already at or below it stays. -/
def State.reachCutoff (s : State) (r : Nat) : State :=
  if s.timerRuns r then
    if (s.route r).cfg.cutoffLead = 0 then s.due r
    else (s.modRoute r fun ro => { ro with count := min ro.count ro.cfg.cutoffLead }).cutoff r
  else s

/-- A count above a nonzero cutoff_lead falls through it on its way to 0, and the cutoff reached is taken there (R46). -/
def State.passCutoff (s : State) (r : Nat) : State :=
  if 0 < (s.route r).cfg.cutoffLead ∧ (s.route r).cfg.cutoffLead < (s.route r).count then
    (s.modRoute r fun ro => { ro with count := ro.cfg.cutoffLead }).cutoff r
  else s

/-- The count of a running timer reaches 0 (R47). A count still above a nonzero cutoff_lead passes that first, so that the
head is FROZEN at its due (R70). -/
def State.reachDue (s : State) (r : Nat) : State := if s.timerRuns r then (s.passCutoff r).due r else s

/-- PT reaches 4,294,967,295 by counting (R166). -/
def State.reachMaxTime (s : State) : State :=
  if s.resetLow ∨ ptMax ≤ s.pt then s else State.raise { s with pt := ptMax } .timeSaturated

/-- The offer timer of a route reaches 0 (R115). -/
def State.reachOfferEnd (s : State) (r : Nat) : State := s.lapseOffer r

/-! ## Ring-out (R159, R160) -/

/-- Whether a frame in transmission is the part's own reply to a taken RESTART: status OK (R160, R172). -/
def Frame.answersRestart (f : Frame) : Bool :=
  f.cls == clsMaintReply &&
    match f.payload with
    | k :: _ :: st :: _ => k == byte RequestKind.restart.code && st == byte Status.ok.code
    | _ => false

/-- The transmission on ring-out ends: the reset of a RESTART is taken when it was its reply, and the arbiter chooses the
next frame otherwise; with ring-out idle there is none to end (R159, R160; DESIGN CHOICE, log entry 10). -/
def State.transmissionEnds (s : State) : State :=
  match s.ringOut with
  | none => s
  | some x => if x.own ∧ x.frame.answersRestart then s.commandReset else s.arbitrate

/-- Whether ring-out transmits the reply to a taken RESTART (R160, R172). -/
def State.restartLeaves (s : State) : Bool := s.ringOut.any fun x => x.own && x.frame.answersRestart

/-- The transmission of the reply to a RESTART ends; with another frame or none in transmission there is none to end (R160, R161,
R172; DESIGN CHOICE, log entry 4). -/
def State.reachReset (s : State) : State := if s.restartLeaves then s.commandReset else s

/-! ## One tick (DESIGN CHOICE, log entry 3) -/

/-- A timer that runs, one tick later. -/
def tickDown (t : Option Nat) : Option Nat := t.map (· - 1)

/-- The offer timer one tick later (R115). -/
def Binding.ticked : Binding → Binding
  | .offered t c left => .offered t c (left - 1)
  | b => b

/-- Whether a route's timer falls at a tick: it runs and is FIXED (R43, R44). -/
def State.fallsAtTick (s : State) (r : Nat) : Bool := s.timerRuns r && (s.route r).cfg.timing == .fixed

/-- Every clock, count and timer one tick later, before the events of the marks they reach. -/
def State.advanced (s : State) : State :=
  { s with
    pt := min (s.pt + 1) ptMax,
    routes := tabulate 8 fun r =>
      if s.fallsAtTick r then { s.route r with count := (s.route r).count - 1 } else s.route r,
    trains := mapTable (fun u =>
      { u with binding := if s.mode = .uncommissioned then u.binding else u.binding.ticked,
               confirmTimer := tickDown u.confirmTimer, silenceTimer := tickDown u.silenceTimer }) s.trains,
    storeOp := s.storeOp.map fun op => { op with elapsed := op.elapsed + 1 } }

/-- What the marks reached at one tick bring about. -/
inductive Mark where
  /-- PT has reached its largest value (R166). -/
  | saturation
  /-- Counts of FIXED routes have reached cutoff_lead or 0 (R46, R47). -/
  | counts
  | offer (route : Nat)
  | confirmation (route : Nat)
  | silence (route : Nat)
  | store
  deriving DecidableEq, Repr

/-- The marks, numbered 0 to 26 for their rank. -/
def markOf (n : Nat) : Mark :=
  if n = 0 then .saturation else if n = 1 then .counts else if n < 10 then .offer (n - 2)
  else if n < 18 then .confirmation (n - 10) else if n < 26 then .silence (n - 18) else .store

/-- Whether a count that fell at this tick stands at a mark. -/
def State.countDue (s : State) (r : Nat) : Bool :=
  s.fallsAtTick r && ((s.route r).count == 0 || (s.route r).count == (s.route r).cfg.cutoffLead)

/-- Whether a mark stands reached; `s` is the part after its clocks advanced, `old` before. -/
def State.reached (old s : State) : Mark → Bool
  | .saturation => s.pt == ptMax && old.pt != ptMax
  | .counts => (List.range Config.routeCount).any s.countDue
  | .offer r =>
    match (s.train r).binding with
    | .offered _ _ left => left == 0
    | _ => false
  | .confirmation r => (s.train r).confirmTimer == some 0
  | .silence r => (s.train r).silenceTimer == some 0
  | .store => s.storeOp.any fun op => decide (Config.storeTicks ≤ op.elapsed)

/-- The event of a count that has fallen to 0 or to cutoff_lead (R46, R47). -/
def State.countEvent (s : State) (r : Nat) : State :=
  if (s.route r).count = 0 then s.due r else s.cutoff r

/-- The event of a mark: a timer that an earlier event of the tick has stopped brings none. The lamps of each route's count event
are derived at the end of that event (DEDUCED, log entry 28). -/
def State.markEvent (old s : State) (m : Mark) : State :=
  if State.reached old s m then
    match m with
    | .saturation => s.raise .timeSaturated
    | .counts =>
      ((List.range Config.routeCount).filter s.countDue).foldl (fun x r => (x.countEvent r).settleLamps) s
    | .offer r => s.lapseOffer r
    | .confirmation r => (s.confirmationExpires r).settleLamps
    | .silence r => (s.silenceExpires r).settleLamps
    | .store => (s.saveEnds).eraseEnds
  else s

/-- The numbers of the marks reached at a tick, in the order their events are taken: the manual gives none, so the order is
free; the counts of the routes go route by route (R43; DESIGN CHOICE, log entry 3). -/
def State.markOrder (old s : State) : List Nat :=
  ((List.range 27).filter fun n => State.reached old s (markOf n)).foldl
    (fun l n => insertByRank (Config.markRank old.draws) n l) []

/-- One tick of the oscillator; none passes while RESET_N holds the part in reset (DEDUCED, log entry 5). -/
def State.tick (s : State) : State :=
  if s.resetLow then s
  else
    let s1 := s.advanced
    let marks := State.markOrder s s1
    (marks.map markOf).foldl (State.markEvent s)
      { s1 with draws := if marks.length < 2 then s1.draws else s1.draws + 1 }

end Sys2Proof.Machine
end

