-- ==== Sys2Proof/Machine/LinkCommands.lean ====
section
/-! DEFINITION. Commands of the ring itself: a frame ends on ring-in, a transmission ends on ring-out. -/

namespace Sys2Proof.Machine

/-- RING_IN_FRAME (R150 to R157). -/
def execRingInFrame (bytes : List Byte) (s : State) : Host.Outcome State Fault Refusal :=
  .next (s.receiveBytes bytes)

/-- TRANSMISSION_END (R159, R160). -/
def execTransmissionEnd (s : State) : Host.Outcome State Fault Refusal :=
  .next (s.transmissionEnds)

end Sys2Proof.Machine
end

