-- ==== Sys2Proof/Machine/PickCommands.lean ====
section
/-! DEFINITION. Commands of the pick station: the PICK telegrams. -/

namespace Sys2Proof.Machine

/-- PICK_START (R67, R68). -/
def execPickStart (hop : Hop) (route tour : Nat) (s : State) : Host.Outcome State Fault Refusal :=
  .next (s.hearPick hop route tour .start)

/-- PICK_DONE (R67, R68, R73). -/
def execPickDone (hop : Hop) (route tour : Nat) (s : State) : Host.Outcome State Fault Refusal :=
  .next (s.hearPick hop route tour .done)

/-- PICK_SHORT (R67, R69). -/
def execPickShort (hop : Hop) (route tour entry : Nat) (s : State) : Host.Outcome State Fault Refusal :=
  .next (s.hearPick hop route tour (.short entry))

end Sys2Proof.Machine
end

