-- ==== Sys2Proof/Machine/PullCommands.lean ====
section
/-! DEFINITION. Commands of a rack station: the PULL telegrams. -/

namespace Sys2Proof.Machine

/-- BIN_EMPTY (R8, R9). -/
def execBinEmpty (hop : Hop) (position : Nat) (s : State) : Host.Outcome State Fault Refusal :=
  .next (s.hear clsPull hop [byte 1, byte position] (.pull (some position) .binEmpty))

/-- BIN_COUNT (R8, R10). -/
def execBinCount (hop : Hop) (position n : Nat) (s : State) : Host.Outcome State Fault Refusal :=
  .next (s.hear clsPull hop [byte 2, byte position, byte n] (.pull (some position) (.binCount n)))

/-- CANCEL (R8, R11, R90). -/
def execCancel (hop : Hop) (position : Nat) (s : State) : Host.Outcome State Fault Refusal :=
  .next (s.hear clsPull hop [byte 3, byte position] (.pull (some position) .cancel))

end Sys2Proof.Machine
end

