-- ==== Sys2Proof/Machine/ReadCommands.lean ====
section
/-! DEFINITION. Commands of the server that read the part's state. -/

namespace Sys2Proof.Machine

/-- STATE_READ_SLOT (R2, R167). -/
def execStateReadSlot (env : Envelope) (index fromField : Nat) (s : State) : Host.Outcome State Fault Refusal :=
  .next (s.hearRequest env index fromField (.stateRead (.slot index)))

/-- STATE_READ_ROUTE (R76, R110). -/
def execStateReadRoute (env : Envelope) (index fromTour fromEntry : Nat) (s : State) : Host.Outcome State Fault Refusal :=
  .next (s.hearRequest env 0 0 (.stateRead (.route index fromTour fromEntry)))

/-- STATE_READ_BACKLOG (R96). -/
def execStateReadBacklog (env : Envelope) (index fromField : Nat) (s : State) : Host.Outcome State Fault Refusal :=
  .next (s.hearRequest env index fromField (.stateRead (.backlog index)))

/-- STATE_READ_RECORD (R147). -/
def execStateReadRecord (env : Envelope) (index fromPart fromEntry : Nat) (s : State) : Host.Outcome State Fault Refusal :=
  .next (s.hearRequest env 0 0 (.stateRead (.record index fromPart fromEntry)))

/-- STATE_READ_LINE (R109). -/
def execStateReadLine (env : Envelope) (index fromField : Nat) (s : State) : Host.Outcome State Fault Refusal :=
  .next (s.hearRequest env index fromField (.stateRead .line))

/-- STATE_READ_PART (R167). -/
def execStateReadPart (env : Envelope) (index fromField : Nat) (s : State) : Host.Outcome State Fault Refusal :=
  .next (s.hearRequest env index fromField (.stateRead .part))

end Sys2Proof.Machine
end

