-- ==== Sys2Proof/Machine/RequestCommands.lean ====
section
/-! DEFINITION. Commands of the server that name the part, its modes, clock, routes, records, alerts and store. -/

namespace Sys2Proof.Machine

/-- IDENTIFY (R164). -/
def execIdentify (env : Envelope) (s : State) : Host.Outcome State Fault Refusal :=
  .next (s.hearRequest env 0 0 .identify)

/-- COMMISSION (R164). -/
def execCommission (env : Envelope) (serial station server : Nat) (s : State) : Host.Outcome State Fault Refusal :=
  .next (s.hearRequest env 0 0 (.commission serial station server))

/-- DECOMMISSION (R165). -/
def execDecommission (env : Envelope) (s : State) : Host.Outcome State Fault Refusal :=
  .next (s.hearRequest env 0 0 .decommission)

/-- ERASE_COMPLETION (R165). -/
def execEraseCompletion (s : State) : Host.Outcome State Fault Refusal :=
  .next (s.eraseEnds)

/-- START (R92, R166). -/
def execStart (env : Envelope) (s : State) : Host.Outcome State Fault Refusal :=
  .next (s.hearRequest env 0 0 .start)

/-- HALT (R93, R94). -/
def execHalt (env : Envelope) (s : State) : Host.Outcome State Fault Refusal :=
  .next (s.hearRequest env 0 0 .halt)

/-- TIME_SET (R166, R108). -/
def execTimeSet (env : Envelope) (time : Nat) (s : State) : Host.Outcome State Fault Refusal :=
  .next (s.hearRequest env 0 0 (.timeSet time))

/-- ROUTE_ENABLE (R50). -/
def execRouteEnable (env : Envelope) (route : Nat) (s : State) : Host.Outcome State Fault Refusal :=
  .next (s.hearRequest env 0 0 (.routeEnable route))

/-- ROUTE_DISABLE (R51, R52). -/
def execRouteDisable (env : Envelope) (route : Nat) (s : State) : Host.Outcome State Fault Refusal :=
  .next (s.hearRequest env 0 0 (.routeDisable route))

/-- ROUTE_RELOAD (R48, R49). -/
def execRouteReload (env : Envelope) (route : Nat) (s : State) : Host.Outcome State Fault Refusal :=
  .next (s.hearRequest env 0 0 (.routeReload route))

/-- RESOLVE_DISSOLVE (R139, R140). -/
def execResolveDissolve (env : Envelope) (record route tour : Nat) (s : State) : Host.Outcome State Fault Refusal :=
  .next (s.hearRequest env 0 0 (.resolve record route tour 1))

/-- RESOLVE_RESUME (R139, R141). -/
def execResolveResume (env : Envelope) (record route tour : Nat) (s : State) : Host.Outcome State Fault Refusal :=
  .next (s.hearRequest env 0 0 (.resolve record route tour 2))

/-- ALERT_ACK (R169). -/
def execAlertAck (env : Envelope) (flags : Nat) (s : State) : Host.Outcome State Fault Refusal :=
  .next (s.hearRequest env 0 0 (.alertAck flags))

/-- SAVE (R170). -/
def execSave (env : Envelope) (autoStart : Nat) (s : State) : Host.Outcome State Fault Refusal :=
  .next (s.hearRequest env 0 0 (.save autoStart))

/-- SAVE_COMPLETION (R170). -/
def execSaveCompletion (s : State) : Host.Outcome State Fault Refusal :=
  .next (s.saveEnds)

/-- CAUSE_READ (R171). -/
def execCauseRead (env : Envelope) (s : State) : Host.Outcome State Fault Refusal :=
  .next (s.hearRequest env 0 0 .causeRead)

/-- UNKNOWN_KIND_REQUEST (R163, R173). -/
def execUnknownKindRequest (env : Envelope) (kind : Nat) (s : State) : Host.Outcome State Fault Refusal :=
  .next (s.hear clsMaintReq { dst := env.dst, src := env.src } [byte kind, byte env.number]
    (.maintReq { kindByte := byte kind, numberByte := byte env.number, kind := none, serial := none, body := none }))

end Sys2Proof.Machine
end

