-- ==== Sys2Proof/Machine/ResetCommands.lean ====
section
/-! DEFINITION. The resets: RESTART and the reset it brings, power-on, and the pin RESET_N. -/

namespace Sys2Proof.Machine

/-- RESTART (R172). -/
def execRestart (env : Envelope) (s : State) : Host.Outcome State Fault Refusal :=
  .next (s.hearRequest env 0 0 .restart)

/-- COMMAND_RESET (R160, R161, R172). -/
def execCommandReset (s : State) : Host.Outcome State Fault Refusal :=
  .next (s.reachReset)

/-- POWER_ON (R161, R171, R172). -/
def execPowerOn (s : State) : Host.Outcome State Fault Refusal :=
  .next (s.powerOn)

/-- RESET_N_LOW (R161, R172). -/
def execResetNLow (s : State) : Host.Outcome State Fault Refusal :=
  .next (s.pinLow)

/-- RESET_N_RELEASE (R172). -/
def execResetNRelease (s : State) : Host.Outcome State Fault Refusal :=
  .next (s.pinReleased)

end Sys2Proof.Machine
end

