-- ==== Sys2Proof/Machine/TableCommands.lean ====
section
/-! DEFINITION. Commands of the server that write and read the part's tables. -/

namespace Sys2Proof.Machine

/-- TABLE_WRITE_SLOT (R4, R5). -/
def execTableWriteSlot (env : Envelope) (index : Nat) (record : SlotRecord) (s : State) : Host.Outcome State Fault Refusal :=
  .next (s.hearRequest env 0 0 (.tableWrite (.slot index record)))

/-- TABLE_WRITE_ROUTE (R40). -/
def execTableWriteRoute (env : Envelope) (index : Nat) (record : RouteRecord) (s : State) : Host.Outcome State Fault Refusal :=
  .next (s.hearRequest env 0 0 (.tableWrite (.route index record)))

/-- TABLE_WRITE_STOPS (R41). -/
def execTableWriteStops (env : Envelope) (route stop offset marker : Nat) (s : State) : Host.Outcome State Fault Refusal :=
  .next (s.hearRequest env 0 0 (.tableWrite (.stops route stop offset marker)))

/-- TABLE_WRITE_LINE_CONFIG (R97). -/
def execTableWriteLineConfig (env : Envelope) (index pacingStation defaultTakt radioBridge : Nat) (s : State) : Host.Outcome State Fault Refusal :=
  .next (s.hearRequest env 0 0 (.tableWrite (.lineConfig index pacingStation defaultTakt radioBridge)))

/-- TABLE_WRITE_ALERT_MASK (R169). -/
def execTableWriteAlertMask (env : Envelope) (index enables : Nat) (s : State) : Host.Outcome State Fault Refusal :=
  .next (s.hearRequest env 0 0 (.tableWrite (.alertMask index enables)))

/-- TABLE_READ_SLOT (R167). -/
def execTableReadSlot (env : Envelope) (index : Nat) (s : State) : Host.Outcome State Fault Refusal :=
  .next (s.hearRequest env 0 0 (.tableRead (.slot index)))

/-- TABLE_READ_ROUTE (R42). -/
def execTableReadRoute (env : Envelope) (index : Nat) (s : State) : Host.Outcome State Fault Refusal :=
  .next (s.hearRequest env 0 0 (.tableRead (.route index)))

/-- TABLE_READ_STOPS (R42). -/
def execTableReadStops (env : Envelope) (route stop : Nat) (s : State) : Host.Outcome State Fault Refusal :=
  .next (s.hearRequest env 0 0 (.tableRead (.stops route stop)))

/-- TABLE_READ_LINE_CONFIG (R97). -/
def execTableReadLineConfig (env : Envelope) (index : Nat) (s : State) : Host.Outcome State Fault Refusal :=
  .next (s.hearRequest env 0 0 (.tableRead (.lineConfig index)))

/-- TABLE_READ_ALERT_MASK (R167). -/
def execTableReadAlertMask (env : Envelope) (index : Nat) (s : State) : Host.Outcome State Fault Refusal :=
  .next (s.hearRequest env 0 0 (.tableRead (.alertMask index)))

end Sys2Proof.Machine
end

