-- ==== Sys2Proof/Machine/TimerCommands.lean ====
section
/-! DEFINITION. Commands that bring a count, a timer or PT to its mark (DESIGN CHOICE, log entry 4). -/

namespace Sys2Proof.Machine

/-- CUTOFF_REACHED (R46, R64). -/
def execCutoffReached (route : Nat) (s : State) : Host.Outcome State Fault Refusal :=
  .next ((s.reachCutoff route).settleLamps)

/-- DEPARTURE_DUE (R47, R70 to R74). -/
def execDepartureDue (route : Nat) (s : State) : Host.Outcome State Fault Refusal :=
  .next ((s.reachDue route).settleLamps)

/-- OFFER_TIMER_EXPIRY (R115). -/
def execOfferTimerExpiry (route : Nat) (s : State) : Host.Outcome State Fault Refusal :=
  .next (s.reachOfferEnd route)

/-- CONFIRMATION_TIMER_EXPIRY (R122). -/
def execConfirmationTimerExpiry (route : Nat) (s : State) : Host.Outcome State Fault Refusal :=
  .next ((s.confirmationExpires route).settleLamps)

/-- SILENCE_TIMER_EXPIRY (R126, R129). -/
def execSilenceTimerExpiry (route : Nat) (s : State) : Host.Outcome State Fault Refusal :=
  .next ((s.silenceExpires route).settleLamps)

/-- PT_SATURATION (R166). -/
def execPtSaturation (s : State) : Host.Outcome State Fault Refusal :=
  .next (s.reachMaxTime)

end Sys2Proof.Machine
end

