-- ==== Sys2Proof/Machine/TrainCommands.lean ====
section
/-! DEFINITION. Commands of the trains: the TRAIN_UP telegrams. -/

namespace Sys2Proof.Machine

/-- CHECK_IN (R112, R113). -/
def execCheckIn (hop : Hop) (route train capacity : Nat) (s : State) : Host.Outcome State Fault Refusal :=
  .next (s.hearTrain hop route train (.checkIn capacity))

/-- CHECK_ACCEPT (R114). -/
def execCheckAccept (hop : Hop) (route train offer : Nat) (s : State) : Host.Outcome State Fault Refusal :=
  .next (s.hearTrain hop route train (.checkAccept offer))

/-- SIGN_OFF (R116). -/
def execSignOff (hop : Hop) (route train : Nat) (s : State) : Host.Outcome State Fault Refusal :=
  .next (s.hearTrain hop route train .signOff)

/-- PASS (R119 to R121). -/
def execPass (hop : Hop) (route train marker : Nat) (s : State) : Host.Outcome State Fault Refusal :=
  .next (s.hearTrain hop route train (.pass marker))

/-- DELIVERED (R123, R124, R137). -/
def execDelivered (hop : Hop) (route train tour entry : Nat) (s : State) : Host.Outcome State Fault Refusal :=
  .next (s.hearTrain hop route train (.delivered tour entry))

/-- RETURN (R127). -/
def execTrainReturn (hop : Hop) (route train : Nat) (s : State) : Host.Outcome State Fault Refusal :=
  .next (s.hearTrain hop route train .trainReturn)

/-- FAULT (R129, R130). -/
def execTrainFault (hop : Hop) (route train code : Nat) (s : State) : Host.Outcome State Fault Refusal :=
  .next (s.hearTrain hop route train (.trainFault code))

end Sys2Proof.Machine
end

