-- ==== Sys2Proof/Machine/Dispatch.lean ====
section
/-! DEFINITION. The meaning of every command, one arm each. -/

namespace Sys2Proof.Machine

def exec (i : Instr) (s : State) : Host.Outcome State Fault Refusal :=
  match i with
  | .ringInFrame bytes => Sys2Proof.Machine.execRingInFrame bytes s
  | .transmissionEnd => Sys2Proof.Machine.execTransmissionEnd s
  | .binEmpty hop position => Sys2Proof.Machine.execBinEmpty hop position s
  | .binCount hop position n => Sys2Proof.Machine.execBinCount hop position n s
  | .cancel hop position => Sys2Proof.Machine.execCancel hop position s
  | .vehicle hop station model sequence => Sys2Proof.Machine.execVehicle hop station model sequence s
  | .lineRunning hop takt => Sys2Proof.Machine.execLineRunning hop takt s
  | .lineStopped hop => Sys2Proof.Machine.execLineStopped hop s
  | .cutoffReached route => Sys2Proof.Machine.execCutoffReached route s
  | .departureDue route => Sys2Proof.Machine.execDepartureDue route s
  | .pickStart hop route tour => Sys2Proof.Machine.execPickStart hop route tour s
  | .pickDone hop route tour => Sys2Proof.Machine.execPickDone hop route tour s
  | .pickShort hop route tour entry => Sys2Proof.Machine.execPickShort hop route tour entry s
  | .checkIn hop route train capacity => Sys2Proof.Machine.execCheckIn hop route train capacity s
  | .checkAccept hop route train offer => Sys2Proof.Machine.execCheckAccept hop route train offer s
  | .offerTimerExpiry route => Sys2Proof.Machine.execOfferTimerExpiry route s
  | .signOff hop route train => Sys2Proof.Machine.execSignOff hop route train s
  | .pass hop route train marker => Sys2Proof.Machine.execPass hop route train marker s
  | .delivered hop route train tour entry => Sys2Proof.Machine.execDelivered hop route train tour entry s
  | .confirmationTimerExpiry route => Sys2Proof.Machine.execConfirmationTimerExpiry route s
  | .trainReturn hop route train => Sys2Proof.Machine.execTrainReturn hop route train s
  | .trainFault hop route train code => Sys2Proof.Machine.execTrainFault hop route train code s
  | .silenceTimerExpiry route => Sys2Proof.Machine.execSilenceTimerExpiry route s
  | .identify env => Sys2Proof.Machine.execIdentify env s
  | .commission env serial station server => Sys2Proof.Machine.execCommission env serial station server s
  | .decommission env => Sys2Proof.Machine.execDecommission env s
  | .eraseCompletion => Sys2Proof.Machine.execEraseCompletion s
  | .start env => Sys2Proof.Machine.execStart env s
  | .halt env => Sys2Proof.Machine.execHalt env s
  | .timeSet env time => Sys2Proof.Machine.execTimeSet env time s
  | .ptSaturation => Sys2Proof.Machine.execPtSaturation s
  | .tableWriteSlot env index record => Sys2Proof.Machine.execTableWriteSlot env index record s
  | .tableWriteRoute env index record => Sys2Proof.Machine.execTableWriteRoute env index record s
  | .tableWriteStops env route stop offset marker => Sys2Proof.Machine.execTableWriteStops env route stop offset marker s
  | .tableWriteLineConfig env index pacingStation defaultTakt radioBridge => Sys2Proof.Machine.execTableWriteLineConfig env index pacingStation defaultTakt radioBridge s
  | .tableWriteAlertMask env index enables => Sys2Proof.Machine.execTableWriteAlertMask env index enables s
  | .tableReadSlot env index => Sys2Proof.Machine.execTableReadSlot env index s
  | .tableReadRoute env index => Sys2Proof.Machine.execTableReadRoute env index s
  | .tableReadStops env route stop => Sys2Proof.Machine.execTableReadStops env route stop s
  | .tableReadLineConfig env index => Sys2Proof.Machine.execTableReadLineConfig env index s
  | .tableReadAlertMask env index => Sys2Proof.Machine.execTableReadAlertMask env index s
  | .stateReadSlot env index fromField => Sys2Proof.Machine.execStateReadSlot env index fromField s
  | .stateReadRoute env index fromTour fromEntry => Sys2Proof.Machine.execStateReadRoute env index fromTour fromEntry s
  | .stateReadBacklog env index fromField => Sys2Proof.Machine.execStateReadBacklog env index fromField s
  | .stateReadRecord env index fromPart fromEntry => Sys2Proof.Machine.execStateReadRecord env index fromPart fromEntry s
  | .stateReadLine env index fromField => Sys2Proof.Machine.execStateReadLine env index fromField s
  | .stateReadPart env index fromField => Sys2Proof.Machine.execStateReadPart env index fromField s
  | .routeEnable env route => Sys2Proof.Machine.execRouteEnable env route s
  | .routeDisable env route => Sys2Proof.Machine.execRouteDisable env route s
  | .routeReload env route => Sys2Proof.Machine.execRouteReload env route s
  | .resolveDissolve env record route tour => Sys2Proof.Machine.execResolveDissolve env record route tour s
  | .resolveResume env record route tour => Sys2Proof.Machine.execResolveResume env record route tour s
  | .alertAck env flags => Sys2Proof.Machine.execAlertAck env flags s
  | .save env autoStart => Sys2Proof.Machine.execSave env autoStart s
  | .saveCompletion => Sys2Proof.Machine.execSaveCompletion s
  | .restart env => Sys2Proof.Machine.execRestart env s
  | .commandReset => Sys2Proof.Machine.execCommandReset s
  | .causeRead env => Sys2Proof.Machine.execCauseRead env s
  | .unknownKindRequest env kind => Sys2Proof.Machine.execUnknownKindRequest env kind s
  | .powerOn => Sys2Proof.Machine.execPowerOn s
  | .resetNLow => Sys2Proof.Machine.execResetNLow s
  | .resetNRelease => Sys2Proof.Machine.execResetNRelease s

end Sys2Proof.Machine
end

