-- ==== Sys2Proof/WellFormed.lean ====
section
/-! DEFINITION. Which operands a command can carry: the widths and ranges of the fields of its frame (R148, Tables 11-1 to
11-6) and the tables a timer belongs to. A value in a field's width that the part refuses or clamps is well-formed. -/

namespace Sys2Proof

/-- A field of one byte. -/
def isByte (n : Nat) : Bool := n < 256

/-- A field of two bytes. -/
def isPair (n : Nat) : Bool := n < 65536

/-- A field of four bytes. -/
def isQuad (n : Nat) : Bool := n < 4294967296

/-- A unit serial (R164). -/
def isSerial (n : Nat) : Bool := n < 281474976710656

/-- A source of a frame: 0 to 254 (R148). -/
def isSource (n : Nat) : Bool := n < 255

/-- A route that has a timer (R37). -/
def isRoute (n : Nat) : Bool := n < Config.routeCount

/-- A request kind that is none of the seventeen (R163). -/
def isUnlistedKind (n : Nat) : Bool := isByte n && !(decide (1 ≤ n) && decide (n ≤ 17))

/-- The addressing of a telegram. -/
def Hop.wellFormed (h : Hop) : Bool := isByte h.dst && isSource h.src

/-- The addressing of a request, and its number. -/
def Envelope.wellFormed (e : Envelope) : Bool := isByte e.dst && isSource e.src && isByte e.number

/-- The fields of a SLOT record within their widths (Table 11-6). -/
def SlotRecord.wellFormed (r : SlotRecord) : Bool :=
  isByte r.inUse && isByte r.rackStation && isByte r.position && isQuad r.partTag && isByte r.route && isByte r.stop
    && isByte r.bins && isPair r.pieces && isByte r.pullMode && isByte r.lineStation && isPair r.modelMask
    && isByte r.usage && isPair r.share && isPair r.reorderPoint && isPair r.margin

/-- The fields of a ROUTE record within their widths (Table 11-6). -/
def RouteRecord.wellFormed (r : RouteRecord) : Bool :=
  isByte r.timingMode && isPair r.period && isPair r.cutoffLead && isByte r.depth && isByte r.binLimit && isByte r.policy
    && isByte r.pickStation && isByte r.confirmCode && isPair r.silenceLimit && isByte r.stopCount

/-- Whether a command's operands are ones it can carry. The bytes of a received frame are any (R150). -/
def Instr.wellFormed : Instr → Bool
  | .ringInFrame _ => true
  | .transmissionEnd => true
  | .binEmpty hop position => hop.wellFormed && isByte position
  | .binCount hop position n => hop.wellFormed && isByte position && isByte n
  | .cancel hop position => hop.wellFormed && isByte position
  | .vehicle hop station model sequence => hop.wellFormed && isByte station && isByte model && isPair sequence
  | .lineRunning hop takt => hop.wellFormed && isPair takt
  | .lineStopped hop => hop.wellFormed
  | .cutoffReached route => isRoute route
  | .departureDue route => isRoute route
  | .pickStart hop route tour => hop.wellFormed && isByte route && isPair tour
  | .pickDone hop route tour => hop.wellFormed && isByte route && isPair tour
  | .pickShort hop route tour entry => hop.wellFormed && isByte route && isPair tour && isByte entry
  | .checkIn hop route train capacity => hop.wellFormed && isByte route && isByte train && isByte capacity
  | .checkAccept hop route train offer => hop.wellFormed && isByte route && isByte train && isByte offer
  | .offerTimerExpiry route => isRoute route
  | .signOff hop route train => hop.wellFormed && isByte route && isByte train
  | .pass hop route train marker => hop.wellFormed && isByte route && isByte train && isByte marker
  | .delivered hop route train tour entry =>
    hop.wellFormed && isByte route && isByte train && isPair tour && isByte entry
  | .confirmationTimerExpiry route => isRoute route
  | .trainReturn hop route train => hop.wellFormed && isByte route && isByte train
  | .trainFault hop route train code => hop.wellFormed && isByte route && isByte train && isByte code
  | .silenceTimerExpiry route => isRoute route
  | .identify env => env.wellFormed
  | .commission env serial station server => env.wellFormed && isSerial serial && isByte station && isByte server
  | .decommission env => env.wellFormed
  | .eraseCompletion => true
  | .start env => env.wellFormed
  | .halt env => env.wellFormed
  | .timeSet env time => env.wellFormed && isQuad time
  | .ptSaturation => true
  | .tableWriteSlot env index record => env.wellFormed && isPair index && record.wellFormed
  | .tableWriteRoute env index record => env.wellFormed && isPair index && record.wellFormed
  | .tableWriteStops env route stop offset marker =>
    env.wellFormed && isByte route && isByte stop && isPair offset && isByte marker
  | .tableWriteLineConfig env index pacingStation defaultTakt radioBridge =>
    env.wellFormed && isPair index && isByte pacingStation && isPair defaultTakt && isByte radioBridge
  | .tableWriteAlertMask env index enables => env.wellFormed && isPair index && isPair enables
  | .tableReadSlot env index => env.wellFormed && isPair index
  | .tableReadRoute env index => env.wellFormed && isPair index
  | .tableReadStops env route stop => env.wellFormed && isByte route && isByte stop
  | .tableReadLineConfig env index => env.wellFormed && isPair index
  | .tableReadAlertMask env index => env.wellFormed && isPair index
  | .stateReadSlot env index fromField => env.wellFormed && isPair index && isPair fromField
  | .stateReadRoute env index fromTour fromEntry =>
    env.wellFormed && isPair index && isByte fromTour && isByte fromEntry
  | .stateReadBacklog env index fromField => env.wellFormed && isPair index && isPair fromField
  | .stateReadRecord env index fromPart fromEntry =>
    env.wellFormed && isPair index && isByte fromPart && isByte fromEntry
  | .stateReadLine env index fromField => env.wellFormed && isPair index && isPair fromField
  | .stateReadPart env index fromField => env.wellFormed && isPair index && isPair fromField
  | .routeEnable env route => env.wellFormed && isByte route
  | .routeDisable env route => env.wellFormed && isByte route
  | .routeReload env route => env.wellFormed && isByte route
  | .resolveDissolve env record route tour => env.wellFormed && isByte record && isByte route && isPair tour
  | .resolveResume env record route tour => env.wellFormed && isByte record && isByte route && isPair tour
  | .alertAck env flags => env.wellFormed && isPair flags
  | .save env autoStart => env.wellFormed && isByte autoStart
  | .saveCompletion => true
  | .restart env => env.wellFormed
  | .commandReset => true
  | .causeRead env => env.wellFormed
  | .unknownKindRequest env kind => env.wellFormed && isUnlistedKind kind
  | .powerOn => true
  | .resetNLow => true
  | .resetNRelease => true

end Sys2Proof
end

