-- ==== Sys2Proof/Machine/Telegrams.lean ====
section
/-! DEFINITION. The frame a command's telegram travels as, for the commands that are telegrams (R148, Tables 11-1 to 11-6),
and the request that a command of the server carries. -/

namespace Sys2Proof.Machine

/-- The maintenance request that a command is, with its addressing (Table 11-5). -/
def requestOf : Instr → Option (Envelope × Request)
  | .identify env => some (env, .identify)
  | .commission env serial station server => some (env, .commission serial station server)
  | .decommission env => some (env, .decommission)
  | .start env => some (env, .start)
  | .halt env => some (env, .halt)
  | .timeSet env time => some (env, .timeSet time)
  | .tableWriteSlot env index record => some (env, .tableWrite (.slot index record))
  | .tableWriteRoute env index record => some (env, .tableWrite (.route index record))
  | .tableWriteStops env route stop offset marker => some (env, .tableWrite (.stops route stop offset marker))
  | .tableWriteLineConfig env index pacing takt bridge => some (env, .tableWrite (.lineConfig index pacing takt bridge))
  | .tableWriteAlertMask env index enables => some (env, .tableWrite (.alertMask index enables))
  | .tableReadSlot env index => some (env, .tableRead (.slot index))
  | .tableReadRoute env index => some (env, .tableRead (.route index))
  | .tableReadStops env route stop => some (env, .tableRead (.stops route stop))
  | .tableReadLineConfig env index => some (env, .tableRead (.lineConfig index))
  | .tableReadAlertMask env index => some (env, .tableRead (.alertMask index))
  | .stateReadSlot env index _ => some (env, .stateRead (.slot index))
  | .stateReadRoute env index fromTour fromEntry => some (env, .stateRead (.route index fromTour fromEntry))
  | .stateReadBacklog env index _ => some (env, .stateRead (.backlog index))
  | .stateReadRecord env index fromPart fromEntry => some (env, .stateRead (.record index fromPart fromEntry))
  | .stateReadLine env _ _ => some (env, .stateRead .line)
  | .stateReadPart env _ _ => some (env, .stateRead .part)
  | .routeEnable env route => some (env, .routeEnable route)
  | .routeDisable env route => some (env, .routeDisable route)
  | .routeReload env route => some (env, .routeReload route)
  | .resolveDissolve env record route tour => some (env, .resolve record route tour 1)
  | .resolveResume env record route tour => some (env, .resolve record route tour 2)
  | .alertAck env flags => some (env, .alertAck flags)
  | .save env autoStart => some (env, .save autoStart)
  | .restart env => some (env, .restart)
  | .causeRead env => some (env, .causeRead)
  | _ => none

/-- The two fields of a STATE_READ that its state code does not read: the "index" and "from" a command gives them. -/
def passedFields : Instr → Nat × Nat
  | .stateReadSlot _ index fromField => (index, fromField)
  | .stateReadBacklog _ index fromField => (index, fromField)
  | .stateReadLine _ index fromField => (index, fromField)
  | .stateReadPart _ index fromField => (index, fromField)
  | _ => (0, 0)

/-- The frame a request travels as. -/
def requestFrame (c : Instr) (env : Envelope) (r : Request) : Frame :=
  Frame.make clsMaintReq env.dst env.src (r.payload env.number (passedFields c).1 (passedFields c).2)

/-- The frame of a telegram with a class, addressing and payload. -/
def Frame.sent (hop : Hop) (cls : Nat) (payload : List Byte) : Frame := Frame.make cls hop.dst hop.src payload

/-- The frame that the telegram of a plant station's command travels as (Tables 11-2 to 11-4). -/
def plantFrame : Instr → Option Frame
  | .binEmpty hop position => some (Frame.sent hop clsPull [byte 1, byte position])
  | .binCount hop position n => some (Frame.sent hop clsPull [byte 2, byte position, byte n])
  | .cancel hop position => some (Frame.sent hop clsPull [byte 3, byte position])
  | .vehicle hop station model sequence =>
    some (Frame.sent hop clsVehicle ([byte 1, byte station, byte model] ++ be16 sequence))
  | .lineRunning hop takt => some (Frame.sent hop clsLine (byte 1 :: be16 takt))
  | .lineStopped hop => some (Frame.sent hop clsLine [byte 2])
  | .pickStart hop route tour => some (Frame.sent hop clsPick ([byte 3, byte route] ++ be16 tour))
  | .pickDone hop route tour => some (Frame.sent hop clsPick ([byte 4, byte route] ++ be16 tour))
  | .pickShort hop route tour entry => some (Frame.sent hop clsPick ([byte 5, byte route] ++ be16 tour ++ [byte entry]))
  | .checkIn hop route train capacity => some (Frame.sent hop clsTrainUp [byte 1, byte route, byte train, byte capacity])
  | .checkAccept hop route train offer => some (Frame.sent hop clsTrainUp [byte 2, byte route, byte train, byte offer])
  | .signOff hop route train => some (Frame.sent hop clsTrainUp [byte 3, byte route, byte train])
  | .pass hop route train marker => some (Frame.sent hop clsTrainUp [byte 4, byte route, byte train, byte marker])
  | .delivered hop route train tour entry =>
    some (Frame.sent hop clsTrainUp ([byte 5, byte route, byte train] ++ be16 tour ++ [byte entry]))
  | .trainReturn hop route train => some (Frame.sent hop clsTrainUp [byte 6, byte route, byte train])
  | .trainFault hop route train code => some (Frame.sent hop clsTrainUp [byte 7, byte route, byte train, byte code])
  | _ => none

/-- The frame a command's telegram travels as; `none` for a command that is no telegram of one kind. -/
def telegramFrame (c : Instr) : Option Frame :=
  match c with
  | .unknownKindRequest env kind => some (Frame.make clsMaintReq env.dst env.src [byte kind, byte env.number])
  | _ =>
    match requestOf c with
    | some (env, r) => some (requestFrame c env r)
    | none => plantFrame c

end Sys2Proof.Machine
end

