-- ==== Sys2Proof/Safety.lean ====
section
/-! DEFINITION. What a sound state of the part is, who the part listens to, and what the statements say of a next state: its
lamps, the telegrams it has sent, placements, ticks, departures, records and start-up. -/

namespace Sys2Proof.Machine

/-! ## Invariants -/

/-- LU's collections are within their sizes: the forward queue holds at most 16, the emit queue at most 32, and the arbiter's
count is 0 to 4 (R157, R159). -/
def State.linkBounded (s : State) : Prop :=
  s.forwardQueue.length ≤ 16 ∧ s.emitQueue.length ≤ 32 ∧ s.burst ≤ 4

/-- Ring-out is idle only with both queues empty (R159). -/
def State.ringKept (s : State) : Prop := s.ringOut = none → s.forwardQueue = [] ∧ s.emitQueue = []

/-- The backlog holds at most 64 orders and stands in the order of R81 (R79). -/
def State.backlogSound (s : State) : Prop :=
  s.backlog.length ≤ 64 ∧ s.backlog.Pairwise fun a b => Order.before b a = false

/-- F + O ≤ B for every slot (R6). -/
def State.slotsWithinRacks (s : State) : Prop :=
  ∀ i < 512, (s.slot i).fullBins + (s.slot i).onOrder ≤ (s.slot i).config.bins

/-- The part has a station number and a server exactly while it is commissioned (R164). -/
def State.commissionSound (s : State) : Prop :=
  (s.mode = .uncommissioned ↔ s.station = none) ∧ (s.mode = .uncommissioned ↔ s.server = none)

/-- Outside RUN every board is empty and every interrupted tour record is free (R55, R132). -/
def State.quietOutsideRun (s : State) : Prop :=
  s.mode ≠ .run →
    (∀ r < 8, (s.route r).waiting = [] ∧ (s.route r).running = none) ∧ ∀ k < 4, s.record k = none

/-- Whether a binding has its train on tour. -/
def Binding.isOnTour : Binding → Bool
  | .bound _ _ .onTour => true
  | _ => false

/-- A route has a RUNNING tour exactly while it is BOUND with its train ON_TOUR (R110). -/
def State.toursHaveTrains (s : State) : Prop :=
  ∀ r < 8, (s.route r).running.isSome ↔ (s.train r).binding.isOnTour = true

/-- The live orders as id and slot: the backlog's, the open entries' on every board, and the pending entries' (R6, R79). -/
def State.liveOrders (s : State) : List (Nat × Nat) :=
  s.backlog.map (fun o => (o.id, o.slot))
    ++ (List.range 8).flatMap (fun r => (s.route r).board.flatMap fun t =>
        (t.entries.filter Entry.isOpen).map fun e => (e.orderId, e.slot))
    ++ (List.range 4).flatMap (fun k => (s.record k).toList.flatMap fun kept =>
        kept.pending.map fun p => (p.orderId, p.slot))

/-- O of every slot is the number of its live orders, and a live order stands in one place: no two have one id. Ids are 1 to
65535 (R6, R79, R82). -/
def State.ordersAccounted (s : State) : Prop :=
  (∀ i < 512, (s.slot i).onOrder = s.liveOrders.countP fun x => x.2 == i) ∧
  (s.liveOrders.map Prod.fst).Nodup ∧ (∀ x ∈ s.liveOrders, 1 ≤ x.1 ∧ x.1 ≤ 65535 ∧ x.2 < 512) ∧
  1 ≤ s.nextOrderId ∧ s.nextOrderId ≤ 65535

/-- Every entry of a tour has a number of its own (R64). -/
def Tour.numbered (t : Tour) : Prop := (t.entries.map Entry.number).Nodup ∧ none ∉ t.entries.map Entry.number

/-- Entries stand as their tours have them: WAITING on a waiting tour and past it on a RUNNING one, numbered from the freeze
on, and numbered apart in a record (R57, R64, R71, R135). -/
def State.entriesSound (s : State) : Prop :=
  (∀ r < 8,
    (∀ t ∈ (s.route r).waiting, (∀ e ∈ t.entries, e.state = .waiting) ∧ (t.state = .planned ∨ t.numbered)) ∧
    (∀ t ∈ (s.route r).running, (∀ e ∈ t.entries, e.state ≠ .waiting) ∧ t.numbered)) ∧
  (∀ k < 4, ∀ kept ∈ s.record k, (kept.pending.map Pending.number).Nodup)

/-- B is at most 8 in every slot record, in the image of the setting store and in one being written (Table 1-1). -/
def State.racksSized (s : State) : Prop :=
  (∀ c ∈ s.slots.toList.map Slot.config, c.bins ≤ 8) ∧
  (∀ image, (s.store = .valid image ∨ ∃ op, s.storeOp = some op ∧ op.work = .write image) →
    ∀ c ∈ image.slots.toList, c.bins ≤ 8)

/-- No slot waits for a lamp derivation: the state stands between events (R19). -/
def State.settled (s : State) : Prop := s.reported = []

/-! ## Lamps -/

/-- A live order of a slot carries URGENT or LATE, wherever it stands (R20). -/
def State.slotAlarmed (s : State) (i : Nat) : Prop :=
  (∃ o ∈ s.backlog, o.slot = i ∧ o.urgent = true) ∨
  (∃ r < 8, ∃ t ∈ (s.route r).board, ∃ e ∈ t.entries,
    e.isOpen = true ∧ e.slot = i ∧ (e.urgent = true ∨ e.late = true)) ∨
  (∃ k < 4, ∃ kept ∈ s.record k, ∃ p ∈ kept.pending, p.slot = i ∧ (p.urgent = true ∨ p.late = true))

/-- The stored lamp of a slot is the derived one: SHORT, else LATE, else ORDERED, else OFF (R20). -/
def State.lampFollows (s : State) (i : Nat) : Prop :=
  ((s.slot i).onHand = 0 → (s.slot i).lamp = .short) ∧
  ((s.slot i).onHand ≠ 0 → s.slotAlarmed i → (s.slot i).lamp = .late) ∧
  ((s.slot i).onHand ≠ 0 → ¬ s.slotAlarmed i → (s.slot i).lamp = if 0 < (s.slot i).onOrder then .ordered else .off)

/-! ## Telegrams sent -/

/-- The frames that are to leave by ring-out without those that wait to be forwarded: the one in transmission, then the emit
queue in its order (R157, R159). -/
def State.leaving (s : State) : List Frame := s.ringOut.toList.map Sending.frame ++ s.emitQueue

/-- An event sends a series of telegrams of one class, and no other of that class: where the emit queue has room for the series
and for `ahead` telegrams more, at most so many come before it, and it leaves whole and in its order (R157, R158). -/
def State.sendsSeries (s t : State) (ahead cls dst : Nat) (payloads : List (List Byte)) : Prop :=
  s.ringKept → s.emitQueue.length + ahead + payloads.length ≤ 32 →
    ∃ before after, before.length ≤ ahead ∧ (∀ f ∈ before ++ after, f.cls ≠ cls) ∧
      t.leaving = s.leaving ++ before ++ payloads.map (Frame.make cls dst (s.station.getD 0)) ++ after

/-- An event publishes the pick list of a frozen tour to its pick station: PICK_LIST telegrams of up to 14 entries in list
order, none for an empty tour, then LIST_READY; at most one alert comes before them (R65, R66, Table 11-4). -/
def State.sendsPickList (s t : State) (r : Nat) (tour : Tour) : Prop :=
  let n := tour.entries.length
  let lists := (List.range ((n + 13) / 14)).map fun k =>
    let group := (tour.entries.drop (14 * k)).take 14
    [1, byte r] ++ be16 tour.number ++ [byte group.length] ++ group.flatMap fun e =>
      [byte (e.number.getD 0)] ++ be16 e.slot ++ be32 (s.slot e.slot).config.partTag ++ [byte e.stop]
  s.sendsSeries t 1 clsPick (s.route r).cfg.pickStation (lists ++ [[2, byte r] ++ be16 tour.number ++ [byte n]])

/-- An event sends one ROUTE_ORDER, and nothing else, to the train of a tour that starts: its stops in stop order with their
markers and entry counts, and the count of all its entries (R118, R143, Table 11-3). -/
def State.sendsRouteOrder (s t : State) (ahead r train : Nat) (tour : Tour) : Prop :=
  let stops := tour.stopList (s.route r)
  s.sendsSeries t ahead clsTrainDown s.lineConfig.radioBridge
    [[2, byte r, byte train] ++ be16 tour.number ++ [byte stops.length, byte tour.entries.length]
      ++ stops.flatMap fun x => [byte x.stop, byte x.marker, byte (tour.entries.countP fun e => e.stop == x.stop)]]

/-- An event sends the STOP_LIST series of a stop: the entries that arrive there in ascending entry number, up to 12 in a
telegram, and one telegram with no items where none does; at most two alerts come before it (R121, Table 11-3). -/
def State.sendsStopList (s t : State) (r train tour stop : Nat) (arrived : List Entry) : Prop :=
  ∃ listed : List Entry, listed.Perm arrived ∧
    listed.Pairwise (fun a b => a.number.getD 0 ≤ b.number.getD 0) ∧
    s.sendsSeries t 2 clsTrainDown s.lineConfig.radioBridge
      ((List.range (max 1 ((listed.length + 11) / 12))).map fun k =>
        [3, byte r, byte train] ++ be16 tour ++ [byte stop, byte listed.length]
          ++ ((listed.drop (12 * k)).take 12).flatMap fun e =>
            [byte (e.number.getD 0), byte (s.slot e.slot).config.rackStation, byte (s.slot e.slot).config.position]
              ++ be32 (s.slot e.slot).config.partTag)

/-! ## Placement -/

/-- The waiting tour at a position of a route can take an order: PLANNED, not held, with fewer entries than C (R84). -/
def State.isCandidate (s : State) (r k : Nat) : Prop :=
  ∃ t, (s.route r).waiting[k]? = some t ∧ t.state = .planned ∧ t.held = false ∧ t.entries.length < s.capacity r

/-- The waiting tour at a position of a route arrives at a stop no later than a due time (R60, R85). -/
def State.arrivesInTime (s : State) (r stop due k : Nat) : Prop :=
  ∃ t, (s.route r).waiting[k]? = some t ∧ t.arrival (s.route r) stop ≤ due

/-- The policy of a slot's route picks the waiting tour at a position for an order due at a time: EARLIEST the first
candidate, LATEST_FIT the last that arrives in time, and the first where none does (R85). -/
def State.policyPicks (s : State) (i due k : Nat) : Prop :=
  let r := (s.slot i).config.route
  let stop := (s.route r).effectiveStop (s.slot i).config.stop
  s.isCandidate r k ∧
  ((s.route r).cfg.policy = .earliest ∧ (∀ j < k, ¬ s.isCandidate r j) ∨
   (s.route r).cfg.policy = .latestFit ∧
    (s.arrivesInTime r stop due k ∧ (∀ j, k < j → s.isCandidate r j → ¬ s.arrivesInTime r stop due j) ∨
     (∀ j, s.isCandidate r j → ¬ s.arrivesInTime r stop due j) ∧ ∀ j < k, ¬ s.isCandidate r j))

/-- A new order of a slot finds no tour: the part is in SETUP, or its route has no candidate (R83, R84). -/
def State.findsNoTour (s : State) (i : Nat) : Prop :=
  s.mode = .setup ∨ s.mode = .run ∧ ∀ k, ¬ s.isCandidate (s.slot i).config.route k

/-! ## Who the part listens to -/

/-- The part takes telegrams: it is commissioned, out of reset and between events. -/
def State.attends (s : State) : Prop := s.resetLow = false ∧ s.mode ≠ .uncommissioned ∧ s.settled

/-- A PULL from a station for a position is for slot i, and is not the part's own (R151, R152). -/
def State.hearsRack (s : State) (h : Hop) (position i : Nat) : Prop :=
  s.attends ∧ s.station ≠ some h.src ∧ s.slotWithKey h.src position = some i

/-- A telegram of the line controller is not the part's own (R151, R152). -/
def State.hearsLine (s : State) (h : Hop) : Prop := s.attends ∧ s.station ≠ some h.src

/-- A PICK addressed to the part comes from the pick station of a configured route (R154). -/
def State.hearsPickStation (s : State) (h : Hop) (r : Nat) : Prop :=
  s.attends ∧ s.station = some h.dst ∧ h.src ≠ h.dst ∧ r < 8 ∧ (s.route r).config.isSome
    ∧ (s.route r).cfg.pickStation = h.src

/-- A TRAIN_UP of a train addressed to the part comes from the radio bridge (R111, R153). -/
def State.hearsBridge (s : State) (h : Hop) (train : Nat) : Prop :=
  s.attends ∧ s.station = some h.dst ∧ h.src ≠ h.dst ∧ h.src ≠ 0 ∧ s.lineConfig.radioBridge = h.src
    ∧ 1 ≤ train ∧ train ≤ 254

/-- A MAINT_REQ addressed to the part comes from its server station (R152, R163). -/
def State.hearsServer (s : State) (e : Envelope) : Prop :=
  s.attends ∧ s.station = some e.dst ∧ s.server = some e.src ∧ e.src ≠ e.dst

/-- The MAINT_REPLY a request is answered with: its kind, number, a status code and data (R162, section 11.5). -/
def State.answered (s : State) (e : Envelope) (kind status : Nat) (data : List Byte) : State :=
  s.emit clsMaintReply e.src ([byte kind, byte e.number, byte status] ++ data)

/-- The REJECT a train's telegram is refused with: route, refused kind and reason, with tour and entry 0 (R131, Table
11-3). -/
def State.rejected (s : State) (bridge route train kind reason : Nat) : State :=
  s.emit clsTrainDown bridge [4, byte route, byte train, byte kind, byte reason, 0, 0, 0]

/-- A train holds no offer and no binding. -/
def State.boundNowhere (s : State) (train : Nat) : Prop := ∀ q < 8, (s.train q).binding.trainId ≠ some train

/-- A train is bound to no route but this one. -/
def State.boundOnlyTo (s : State) (train route : Nat) : Prop :=
  ∀ q < 8, (s.train q).binding.boundTrain = some train → q = route

/-- No interrupted tour record is live. -/
def State.recordsFree (s : State) : Prop := ∀ k < 4, s.record k = none

/-- The ticks of n units of a route: one tick each on a FIXED route, T on a TAKT route (section 3.1). -/
def State.unitTicks (s : State) (r n : Nat) : Nat :=
  n * (match (s.route r).cfg.timing with | .fixed => 1 | .takt => s.takt)

/-! ## Time -/

/-- A route's timer falls at a tick: in RUN, on an enabled FIXED route with a record (R43, R44). -/
def State.countsTicks (s : State) (r : Nat) : Prop :=
  s.mode = .run ∧ (s.route r).enabled = true ∧ (s.route r).config.isSome ∧ (s.route r).cfg.timing = .fixed

/-- One tick on, before its events: PT has risen by one and holds at its largest value, the counts of running FIXED routes,
the offer timers and the timers of running tours have fallen by one, and the store operation has run one tick more (R44, R115,
R122, R126, R166). -/
def State.tickedTo (s later : State) : Prop :=
  later.pt = min (s.pt + 1) 4294967295 ∧
  (∀ r < 8, (s.countsTicks r → later.route r = { s.route r with count := (s.route r).count - 1 }) ∧
    (¬ s.countsTicks r → later.route r = s.route r) ∧
    later.train r = { s.train r with
      binding := match s.mode, (s.train r).binding with
        | .setup, .offered train capacity left => .offered train capacity (left - 1)
        | .run, .offered train capacity left => .offered train capacity (left - 1)
        | _, b => b,
      confirmTimer := (s.train r).confirmTimer.map (· - 1), silenceTimer := (s.train r).silenceTimer.map (· - 1) }) ∧
  later.storeOp = s.storeOp.map (fun op => { op with elapsed := op.elapsed + 1 }) ∧
  later = { s with pt := later.pt, routes := later.routes, trains := later.trains, storeOp := later.storeOp }

/-- A tick from one state to the next reaches the mark that a command stands for: a count at 0 or at cutoff_lead, a timer at
0, PT at its largest value, and a store operation's 20th tick (R46, R47, R115, R122, R126, R165, R166, R170). -/
def State.tickReaches (s later : State) : Instr → Prop
  | .departureDue r => r < 8 ∧ s.countsTicks r ∧ (later.route r).count = 0
  | .cutoffReached r =>
    r < 8 ∧ s.countsTicks r ∧ (later.route r).count ≠ 0 ∧ (later.route r).count = (later.route r).cfg.cutoffLead
  | .offerTimerExpiry r => r < 8 ∧ ∃ train capacity, (later.train r).binding = .offered train capacity 0
  | .confirmationTimerExpiry r => r < 8 ∧ (later.train r).confirmTimer = some 0
  | .silenceTimerExpiry r => r < 8 ∧ (later.train r).silenceTimer = some 0
  | .ptSaturation => s.pt < 4294967295 ∧ later.pt = 4294967295
  | .saveCompletion => ∃ op image, later.storeOp = some op ∧ op.work = .write image ∧ 20 ≤ op.elapsed
  | .eraseCompletion => ∃ op, later.storeOp = some op ∧ op.work = .erase ∧ 20 ≤ op.elapsed
  | _ => False

/-! ## Departure and interruption -/

/-- The head of a route has departed late with its train, from a state whose count stands at `count`: it runs from now with its
entries LOADED and LATE evaluated; each tour behind it is planned no earlier than its whole periods from now, but the new head
takes its cutoff where the count stands at or below cutoff_lead, and the train is sent its ROUTE_ORDER (R63, R71, R73, R74, R117,
R118). -/
def State.departedLate (s t : State) (r : Nat) (head : Tour) (behind : List Tour) (train capacity count : Nat) : Prop :=
  let retimed := behind.zipIdx.map fun x =>
    max x.1.plannedDeparture (min (s.pt + s.unitTicks r ((x.2 + 1) * (s.route r).cfg.period)) 4294967295)
  let atCutoff := count ≤ (s.route r).cfg.cutoffLead
  ∃ gone, (t.route r).running = some gone ∧
    gone = { head with
      state := .running, plannedDeparture := s.pt, held := false, pickState := none, currentStop := some (-1),
      entries := head.entries.map (fun e => { e with
        state := .loaded, late := decide (e.due < gone.arrival (s.route r) e.stop) }),
      window := windowOf (s.route r).cfg.confirmCode, limit := limitOf (s.route r).cfg.silenceLimit } ∧
    (t.route r).count = count ∧
    ((t.route r).waiting.take behind.length).map Tour.number = behind.map Tour.number ∧
    ((t.route r).waiting.take behind.length).map Tour.plannedDeparture
      = (if atCutoff then retimed.modifyHead fun _ => min (s.pt + s.unitTicks r count) 4294967295 else retimed) ∧
    ((t.route r).waiting.take behind.length).map Tour.state
      = (if atCutoff then (behind.map Tour.state).modifyHead fun _ => .frozen else behind.map Tour.state) ∧
    (t.train r).binding = .bound train capacity .onTour ∧ (t.train r).silenceTimer = gone.limit ∧
    (t.train r).confirmTimer = none ∧ s.sendsRouteOrder t 4 r train gone ∧
    ∀ q, q ≠ r → t.route q = s.route q ∧ t.train q = s.train q

/-- The fault stop and the saved stop list of a record kept from a tour: the first stop where no marker was passed, the
current stop where an entry of it is AT_STOP or LOADED, and else the next stop, if there is one; the tour's stop list from
there on (R134). -/
def Record.keptFrom (kept : Record) (tour : Tour) (route : Route) : Prop :=
  let stops := tour.stopList route
  (tour.currentStop = some (-1) → kept.faultStop = (stops.head?.map StopItem.stop).getD 0) ∧
  (∀ stop : Nat, tour.currentStop = some (stop : Int) →
    let here := ∃ e ∈ tour.entries, e.stop = stop ∧ (e.state = .atStop ∨ e.state = .loaded)
    (here → kept.faultStop = stop) ∧
    (¬ here → (∃ x ∈ stops, stop < x.stop) → kept.faultStop = stop + 1) ∧
    (¬ here → (∀ x ∈ stops, x.stop ≤ stop) → kept.faultStop = stop)) ∧
  kept.stops = stops.filter fun x => decide (kept.faultStop ≤ x.stop)

/-- What becomes of the orders of an interrupted tour: nothing is kept of one with no open entry; a tour resumed three times,
and any tour when no record is free, goes back to the backlog with ITR_AUTO_DISSOLVED, the orders a full backlog cannot take
dropped; any other fills the free record of lowest id, its open entries pending in the order of R58 (R18, R89, R133 to R135,
R145). -/
def State.tourKept (s t : State) (r : Nat) (tour : Tour) (train : Nat) (cause : Cause) : Prop :=
  let live := tour.entries.filter Entry.isOpen
  let dissolves := tour.plan.isSome ∧ tour.resumeCount = 3 ∨ ∀ k < 4, s.record k ≠ none
  (live = [] ∨ dissolves → ∀ k < 4, t.record k = s.record k) ∧
  (live = [] ∨ ¬ dissolves → t.backlog = s.backlog ∧ ∀ i, t.slot i = s.slot i) ∧
  (live ≠ [] → dissolves → t.flagSet .itrAutoDissolved = true ∧
    (s.backlog.length + live.length ≤ 64 →
      t.backlog.Perm (s.backlog ++ live.map fun e => e.toOrder .dissolved) ∧
      ∀ i, t.slot i = { s.slot i with lamp := (t.slot i).lamp }) ∧
    (s.backlog.length = 64 → t.backlog = s.backlog ∧ t.flagSet .orderDropped = true ∧
      ∀ i < 512, (t.slot i).onOrder = (s.slot i).onOrder - live.countP (fun e => e.slot == i) ∧
        (t.slot i).onHand = (s.slot i).onHand ∧ ((∃ e ∈ live, e.slot = i) → (t.slot i).lostOrder = true))) ∧
  (live ≠ [] → ¬ dissolves → ∀ k < 4, s.record k = none → (∀ j < k, s.record j ≠ none) →
    ∃ kept, t.record k = some kept ∧ kept.keptFrom tour (s.route r) ∧
      kept = { kept with route := r, tour := tour.number, train := train, cause := cause, time := s.pt,
                         window := tour.window, limit := tour.limit, resumeCount := tour.resumeCount } ∧
      kept.pending.Perm (live.map fun e =>
        { number := e.number.getD 0, orderId := e.orderId, creation := e.creation, created := e.created, slot := e.slot,
          stop := e.stop, due := e.due, urgent := e.urgent, late := e.late }) ∧
      kept.pending.Pairwise (fun a b => Pending.before b a = false) ∧ ∀ j, j ≠ k → t.record j = s.record j)

/-! ## Start-up -/

/-- The part has started up from an image of a part `old` after a reset of `s`: station, server, static fields, stops, enabled
states, line configuration and mask are the image's, every slot starts afresh and every count at its period; with auto-start
the part is in RUN and each enabled route has its tours, and without it is in SETUP with empty boards (R3, R39, R97, R172). -/
def State.startedFrom (s t old : State) (auto : Bool) (cause : ResetCause) : Prop :=
  t.station = old.station ∧ t.server = old.server ∧
  (∀ i < 512, t.slot i = Slot.fresh (old.slot i).config) ∧
  (∀ r < 8, (old.route r).config = none → t.route r = Route.blank) ∧
  (∀ r < 8, ∀ c, (old.route r).config = some c →
    t.route r = { config := some c, stops := (old.route r).stops, enabled := (old.route r).enabled, count := c.period,
                  nextTour := (t.route r).nextTour, waiting := (t.route r).waiting, running := none } ∧
    let depth := if auto ∧ (old.route r).enabled then c.depth else 0
    (depth = 0 → (t.route r).nextTour = 1) ∧
    (t.route r).waiting.map Tour.plannedDeparture
      = (List.range depth).map (fun k => min (t.unitTicks r (c.period + k * c.period)) 4294967295) ∧
    (t.route r).waiting.map Tour.state
      = (List.range depth).map fun k => if k = 0 ∧ c.period ≤ c.cutoffLead then .frozen else .planned) ∧
  t = { State.reset with
    serial := s.serial, cause := cause, storeInterrupted := t.storeInterrupted, store := s.store, draws := s.draws,
    pending := s.pending, mode := if auto then .run else .setup, station := t.station, server := t.server,
    lineConfig := old.lineConfig, takt := old.lineConfig.defaultTakt, mask := old.mask, slots := t.slots,
    routes := t.routes, flags := t.flags, forwardQueue := t.forwardQueue, emitQueue := t.emitQueue,
    ringOut := t.ringOut, burst := t.burst }

end Sys2Proof.Machine
end

