-- ==== Sys2Proof/Certificates/Slice0/Obligations.lean ====
section
/-! DEFINITION. The statements about the part: its steps, its ring, each family of commands with what it leaves unchanged, and
the invariants every step keeps. Numbered rules are those of spec/. -/

open Sys2Proof Sys2Proof.Machine

/-! ## The step -/

/-- A step runs the command at the front of the queue on the part and the queue's rest. The queue of commands is the model's
own (log entry 9). -/
def Obligations.StepRunsFrontCommand : Prop :=
  ∀ (c : Instr) (rest : List Instr) (s : State), s.pending = c :: rest → step s = exec c { s with pending := rest }

/-- On an empty queue a step is one tick of the oscillator. PT rises by one and holds at 4,294,967,295; the counts of running
FIXED routes, the offer timers and the timers of running tours fall by one, and a store operation runs one tick more. A tick
that reaches no mark does nothing else; one that reaches a single mark does what that mark's command does: a count at
cutoff_lead or 0, a timer at 0, PT at its largest value, the 20th tick of a store operation. With RESET_N low nothing happens
(R44, R46, R47, R115, R122, R126, R165, R166, R170). That a step on an empty queue is a tick, and that all clocks advance
before an event, is the model's choice (log entry 3); that none passes in reset is its reading (log entry 5). -/
def Obligations.TicksPassTime : Prop :=
  ∀ s : State, s.pending = [] →
    (s.resetLow = true → step s = .next s) ∧
    (s.resetLow = false → s.pt ≤ 4294967295 →
      (∃ t, step s = .next t ∧ t.pt = min (s.pt + 1) 4294967295) ∧
      ∀ later : State, s.tickedTo later →
        ((∀ c, ¬ s.tickReaches later c) → step s = .next later) ∧
        (∀ c, s.tickReaches later c → (∀ d, s.tickReaches later d → d = c) →
          step s = exec c (if c = .ptSaturation then { later with pt := s.pt } else later)))

/-- No command changes the unit serial (R164: fixed in the part) or the queue of waiting commands. The queue is the model's
own (log entry 9). -/
def Obligations.SerialAndQueueAreKept : Prop :=
  ∀ (c : Instr) (s t : State), exec c s = .next t → t.serial = s.serial ∧ t.pending = s.pending

/-! ## Frames and the ring -/

/-- Reading and building agree: the bytes of a well-formed telegram's frame, arriving as RING_IN_FRAME, do exactly what the
telegram's own command does, in every state (Tables 11-1 to 11-6). -/
def Obligations.TelegramFramesDecode : Prop :=
  ∀ (c : Instr) (f : Frame) (s : State), c.wellFormed = true → telegramFrame c = some f →
    exec (.ringInFrame f.bytes) s = exec c s

/-- A frame with a length above 120, with another number of payload bytes than its length field says, or with a check that
does not match is discarded: CHECK_ERROR is raised and nothing else happens (R150). A whole frame of a class no block takes
travels on: it joins the forward queue while it holds fewer than 16, is sent at once on an idle ring-out, and is discarded with
RING_OVERRUN at a full queue (R152, R157, R159). -/
def Obligations.FramesOfNoBlockPassOrAreDiscarded : Prop :=
  (∀ (cls dst src len : Byte) (rest : List Byte) (s : State), s.resetLow = false →
    (120 < len.toNat ∨ rest.length ≠ len.toNat + 2 ∨
      ∃ (body : List Byte) (hi lo : Byte), rest = body ++ [hi, lo] ∧
        checkValue ([cls, dst, src, len] ++ body) ≠ BitVec.ofNat 16 (hi.toNat * 256 + lo.toNat)) →
    exec (.ringInFrame ([cls, dst, src, len] ++ rest)) s = .next (s.raise .checkError)) ∧
  ∀ (cls dst src : Nat) (payload : List Byte) (s : State),
    cls < 256 → dst < 256 → src < 256 → payload.length ≤ 120 →
    cls ∉ [clsPull, clsVehicle, clsLine, clsTrainUp, clsPick, clsMaintReq, clsMaintReply] →
    s.attends → s.station ≠ some src →
    (s.ringOut.isSome → s.forwardQueue.length < 16 →
      exec (.ringInFrame (Frame.make cls dst src payload).bytes) s
        = .next { s with forwardQueue := s.forwardQueue ++ [Frame.make cls dst src payload] }) ∧
    (s.ringOut = none → s.forwardQueue = [] → s.emitQueue = [] →
      exec (.ringInFrame (Frame.make cls dst src payload).bytes) s
        = .next { s with ringOut := some { frame := Frame.make cls dst src payload, own := false }, burst := 0 }) ∧
    (16 ≤ s.forwardQueue.length →
      exec (.ringInFrame (Frame.make cls dst src payload).bytes) s = .next (s.raise .ringOverrun))

/-- Emission and alerts. A telegram that a block hands LU is completed with the part's station number (0 in UNCOMMISSIONED),
its length and its check and joins the emit queue while it holds fewer than 32; it is sent at once on an idle ring-out, and is
discarded with EMIT_OVERRUN at a full queue, which sends no telegram (R149, R157, R158, R159). Raising an alert whose flag is
set changes nothing; a clear flag becomes set, and an ALERT telegram with the flags as they stand then and TIME_UNSET goes to
the server exactly when the flag's enable is on and the part is not UNCOMMISSIONED. ATTN_N is asserted exactly while a flag is
set whose enable is on (R168). -/
def Obligations.EmissionAndAlertsReachTheRing : Prop :=
  ∀ (cls dst : Nat) (payload : List Byte) (a : Alert) (s : State),
    let frame : Frame :=
      { cls := cls, dst := dst, src := s.station.getD 0, payload := payload,
        check := checkValue ([byte cls, byte dst, byte (s.station.getD 0), byte payload.length] ++ payload) }
    let flagged : State := { s with flags := s.flags ||| (1#16 <<< a.bit) }
    (s.emitQueue.length < 32 → s.ringOut.isSome →
      s.emit cls dst payload = { s with emitQueue := s.emitQueue ++ [frame] }) ∧
    (s.ringOut = none → s.forwardQueue = [] → s.emitQueue = [] →
      s.emit cls dst payload = { s with ringOut := some { frame := frame, own := true }, burst := 0 }) ∧
    (32 ≤ s.emitQueue.length → s.emit cls dst payload = { s with flags := s.flags ||| (1#16 <<< 12) }) ∧
    (s.flags.getLsbD a.bit = true → s.raise a = s) ∧
    (s.flags.getLsbD a.bit = false →
      (s.mask.getLsbD a.bit = true → s.mode ≠ .uncommissioned →
        s.raise a = flagged.emit clsAlert (s.server.getD 0)
          ([1] ++ be16 flagged.flags.toNat ++ [byte (if s.timeUnset then 1 else 0)])) ∧
      (s.mask.getLsbD a.bit = false ∨ s.mode = .uncommissioned → s.raise a = flagged)) ∧
    (s.attnAsserted = true ↔ ∃ b : Alert, s.flags.getLsbD b.bit = true ∧ s.mask.getLsbD b.bit = true)

/-- The end of a transmission that is not a RESTART's reply: the arbiter's table (R159). -/
def Obligations.ArbiterChoosesNextFrame : Prop :=
  ∀ (x : Sending) (f e : Frame) (fs es : List Frame) (s : State),
    s.ringOut = some x → (x.own && x.frame.answersRestart) = false →
    (s.forwardQueue = [] → s.emitQueue = [] → exec .transmissionEnd s = .next { s with ringOut := none }) ∧
    (s.forwardQueue = f :: fs → s.emitQueue = [] →
      exec .transmissionEnd s
        = .next { s with ringOut := some { frame := f, own := false }, forwardQueue := fs, burst := 0 }) ∧
    (s.forwardQueue = [] → s.emitQueue = e :: es →
      exec .transmissionEnd s
        = .next { s with ringOut := some { frame := e, own := true }, emitQueue := es, burst := 0 }) ∧
    (s.forwardQueue = f :: fs → s.emitQueue = e :: es → s.burst < 4 →
      exec .transmissionEnd s
        = .next { s with ringOut := some { frame := f, own := false }, forwardQueue := fs, burst := s.burst + 1 }) ∧
    (s.forwardQueue = f :: fs → s.emitQueue = e :: es → s.burst = 4 →
      exec .transmissionEnd s
        = .next { s with ringOut := some { frame := e, own := true }, emitQueue := es, burst := 0 })

/-- Telegrams that reach no block. While RESET_N holds the part in reset, no telegram and no frame changes anything (R172);
in UNCOMMISSIONED a plant station's telegram is forwarded and does nothing else (R155). That nothing reaches a part held in
reset is the model's reading (log entry 5). -/
def Obligations.UnheardTelegramsPass : Prop :=
  ∀ (c : Instr) (f : Frame) (bytes : List Byte) (s : State),
    (s.resetLow = true → telegramFrame c = some f → exec c s = .next s ∧ exec (.ringInFrame bytes) s = .next s) ∧
    (s.resetLow = false → s.mode = .uncommissioned → s.settled → s.formerStation ≠ some f.src → plantFrame c = some f →
      exec c s = .next (s.forward f))

/-- A plant station's telegram changes no setting: the mode, the commission record, PT, the alert mask, the line
configuration, the setting store, the static fields of every slot and every route record with its stops and enabled state
stay. -/
def Obligations.PlantTelegramsKeepSettings : Prop :=
  ∀ (c : Instr) (f : Frame) (s t : State), plantFrame c = some f → exec c s = .next t →
    t = { s with
      forwardQueue := t.forwardQueue, emitQueue := t.emitQueue, ringOut := t.ringOut, burst := t.burst,
      slots := t.slots, echo := t.echo, reported := t.reported, backlog := t.backlog, nextOrderId := t.nextOrderId,
      creationCount := t.creationCount, routes := t.routes, trains := t.trains, records := t.records,
      lineState := t.lineState, takt := t.takt, taktReported := t.taktReported, flags := t.flags, draws := t.draws } ∧
    (∀ i, (t.slot i).config = (s.slot i).config) ∧
    (∀ r, (t.route r).config = (s.route r).config ∧ (t.route r).stops = (s.route r).stops
      ∧ (t.route r).enabled = (s.route r).enabled)

/-! ## Dating -/

/-- The five stages of a dating, for inputs in their ranges: A is P × 256 and D is u × m, N is their truncated quotient held
at 4095, R is N × T, and the due time is now plus R − g, saturating, with URGENT clear where R exceeds g, and now with URGENT
set where it does not (R25, R26, R27, R28). -/
def Obligations.DatingFollowsFiveStages : Prop :=
  ∀ pieces usage share margin takt now : Nat, pieces ≤ 65535 → 1 ≤ usage → usage ≤ 255 → 1 ≤ share → share ≤ 256 →
    1 ≤ takt → takt ≤ 6000 → now ≤ 4294967295 →
    let stock := reachStock pieces
    let demand := reachDemand usage share
    let takts := reachTakts pieces usage share
    let reach := reachTicks pieces usage share takt
    let dated := dating pieces usage share margin takt now
    stock = pieces * 256 ∧ stock ≤ 16776960 ∧ demand = usage * share ∧ 1 ≤ demand ∧ demand ≤ 65280 ∧
    takts = min (stock / demand) 4095 ∧ (stock < demand → takts = 0) ∧ reach = takts * takt ∧ reach ≤ 24570000 ∧
    (margin < reach → dated = { due := min (now + (reach - margin)) 4294967295, urgent := false }) ∧
    (reach ≤ margin → dated = { due := now, urgent := true }) ∧
    (margin = 0 → (dated.urgent = true ↔ reach = 0) ∧ (reach = 0 ↔ takts = 0)) ∧
    (pieces = 0 → dated.urgent = true) ∧ now ≤ dated.due

/-- The stages are non-decreasing in the stock (R33): more pieces never give an earlier due time, and an order that is not
URGENT does not become so. -/
def Obligations.MoreStockIsNeverDueEarlier : Prop :=
  ∀ pieces more usage share margin takt now : Nat, pieces ≤ more → now ≤ 4294967295 →
    (dating pieces usage share margin takt now).due ≤ (dating more usage share margin takt now).due ∧
    ((dating pieces usage share margin takt now).urgent = false →
      (dating more usage share margin takt now).urgent = false)

/-! ## Pulls -/

/-- A press. It lowers F by one and sets P to F × Q; on a COUNTED slot SHORT follows P (R7, R9). Where F + O is then below B
one order is raised, dated with P (R14): it is placed on the tour the route's policy picks, with LATE by that tour's arrival,
and LATE_ORDER is raised for a set mark (R83, R84, R85); where no tour can take it, it joins the backlog with origin PULL; and
where that holds 64 it is refused, with NOT_TAKEN, BACKLOG_FULL and on a SIGNALLED slot a LAMP of kind NOT_TAKEN (R15). Taken,
it raises O by one and clears LOST_ORDER and NOT_TAKEN, and the lamp of a SIGNALLED slot becomes SHORT, LATE or ORDERED by R20
where the emit queue has room. Every other slot stays. A press on an empty slot whose bins are all on order raises none and
sends the stored lamp again, to a SIGNALLED slot alone (R22). -/
def Obligations.PressRaisesOrder : Prop :=
  ∀ (h : Hop) (position i : Nat) (s : State), s.hearsRack h position i → 1 ≤ (s.slot i).config.pieces →
    let old := s.slot i
    let pieces := (old.fullBins - 1) * old.config.pieces
    let d := dating pieces old.config.usage old.config.share old.config.margin s.takt s.pt
    let pressed : Slot := { old with
      fullBins := old.fullBins - 1, onHand := pieces,
      shortFlag := if old.config.pullMode = .counted then decide (pieces = 0) else old.shortFlag }
    let ordered : Slot := { pressed with onOrder := old.onOrder + 1, lostOrder := false, notTaken := false }
    let route := s.route old.config.route
    let stop := route.effectiveStop old.config.stop
    (old.fullBins - 1 + old.onOrder < old.config.bins →
      (s.findsNoTour i → s.backlog.length < 64 →
        ∃ t, exec (.binEmpty h position) s = .next t ∧ t.slot i = { ordered with lamp := (t.slot i).lamp } ∧
          t.backlog = insertOrdered Order.before
            { id := s.nextFreeId, creation := s.creationCount, slot := i, due := d.due, urgent := d.urgent,
              origin := .pull, created := s.pt } s.backlog ∧
          (old.config.pullMode = .signalled → s.emitQueue.length < 32 → t.lampFollows i) ∧
          (∀ j, j ≠ i → t.slot j = s.slot j) ∧
          t = { s with slots := t.slots, backlog := t.backlog, nextOrderId := t.nextOrderId,
                       creationCount := t.creationCount, forwardQueue := t.forwardQueue, emitQueue := t.emitQueue,
                       ringOut := t.ringOut, burst := t.burst, flags := t.flags }) ∧
      (s.mode = .run → ∀ (k : Nat) (tour : Tour), s.policyPicks i d.due k → route.waiting[k]? = some tour →
        let late := decide (d.due < tour.arrival route stop)
        ∃ t, exec (.binEmpty h position) s = .next t ∧ t.slot i = { ordered with lamp := (t.slot i).lamp } ∧
          t.route old.config.route = { route with waiting := route.waiting.set k { tour with
            entries := insertOrdered Entry.before
              { orderId := s.nextFreeId, created := s.pt, creation := s.creationCount, slot := i, stop := stop,
                due := d.due, urgent := d.urgent, late := late, number := none, state := .waiting } tour.entries } } ∧
          (late = true → t.flagSet .lateOrder = true) ∧
          (old.config.pullMode = .signalled → s.emitQueue.length < 31 → t.lampFollows i) ∧
          (∀ j, j ≠ i → t.slot j = s.slot j) ∧ (∀ q, q ≠ old.config.route → t.route q = s.route q) ∧
          t = { s with slots := t.slots, routes := t.routes, nextOrderId := t.nextOrderId,
                       creationCount := t.creationCount, forwardQueue := t.forwardQueue, emitQueue := t.emitQueue,
                       ringOut := t.ringOut, burst := t.burst, flags := t.flags }) ∧
      (s.findsNoTour i → s.backlog.length = 64 →
        ∃ t, exec (.binEmpty h position) s = .next t ∧
          t.slot i = { pressed with
            shortFlag := if pieces = old.onHand then old.shortFlag else pressed.shortFlag, notTaken := true,
            lamp := (t.slot i).lamp } ∧
          t.flagSet .backlogFull = true ∧
          (old.config.pullMode = .signalled → s.ringOut.isSome → s.emitQueue.length < 31 →
            Frame.make clsLamp old.config.rackStation (s.station.getD 0) [5, byte old.config.position]
              ∈ t.emitQueue) ∧
          (∀ j, j ≠ i → t.slot j = s.slot j) ∧
          t = { s with slots := t.slots, forwardQueue := t.forwardQueue, emitQueue := t.emitQueue,
                       ringOut := t.ringOut, burst := t.burst, flags := t.flags })) ∧
    (old.fullBins = 0 → old.onHand = 0 → old.onOrder = old.config.bins →
      exec (.binEmpty h position) s = .next
        (match old.config.pullMode with
          | .signalled => s.emit clsLamp old.config.rackStation [byte old.lamp.code, byte old.config.position]
          | .counted => s))

/-- A BIN_COUNT where orders find no tour: F is n held at B − O, P is F × Q, on a COUNTED slot SHORT follows P, and orders of
origin RESYNC fill the rack, the k-th dated with P + (k − 1) × Q, each joining the backlog while it holds fewer than 64; the
first that it cannot take is refused with NOT_TAKEN and BACKLOG_FULL and ends the step (R7, R10, R14, R15, R33). -/
def Obligations.BinCountFillsRack : Prop :=
  ∀ (h : Hop) (position n i : Nat) (s : State), s.hearsRack h position i → s.findsNoTour i →
    (s.slot i).onOrder ≤ (s.slot i).config.bins → 1 ≤ (s.slot i).config.pieces → s.backlog.length ≤ 64 →
    let old := s.slot i
    let c := old.config
    let bins := min n (c.bins - old.onOrder)
    let wanted := c.bins - old.onOrder - bins
    let taken := min wanted (64 - s.backlog.length)
    ∃ t, exec (.binCount h position n) s = .next t ∧
      t.slot i = { old with
        fullBins := bins, onHand := bins * c.pieces, onOrder := old.onOrder + taken, lamp := (t.slot i).lamp,
        shortFlag := if c.pullMode = .counted ∧ (bins * c.pieces ≠ old.onHand ∨ 0 < taken)
          then decide (bins * c.pieces = 0) else old.shortFlag,
        lostOrder := if taken = 0 then old.lostOrder else false,
        notTaken := if taken < wanted then true else if taken = 0 then old.notTaken else false } ∧
      (taken < wanted → t.flagSet .backlogFull = true) ∧
      (∀ j, j ≠ i → t.slot j = s.slot j) ∧
      t.backlog.length = s.backlog.length + taken ∧ (∀ o ∈ s.backlog, o ∈ t.backlog) ∧
      (∀ k < taken, ∃ o ∈ t.backlog, o.slot = i ∧ o.origin = .resync ∧ o.created = s.pt ∧
        (dating (bins * c.pieces + k * c.pieces) c.usage c.share c.margin s.takt s.pt)
          = { due := o.due, urgent := o.urgent }) ∧
      t = { s with slots := t.slots, backlog := t.backlog, nextOrderId := t.nextOrderId,
                   creationCount := t.creationCount, forwardQueue := t.forwardQueue, emitQueue := t.emitQueue,
                   ringOut := t.ringOut, burst := t.burst, flags := t.flags }

/-- A CANCEL. The slot's candidates are its backlog orders and its WAITING entries on PLANNED tours of its route. With none,
also where its orders stand on FROZEN or RUNNING tours or in records, CANCEL_REFUSED is sent and nothing else changes. The
newest of them, by created time and creation count, is withdrawn without a credit: a backlog order leaves the backlog, and an
entry leaves its tour, whose list closes up. O falls by one; F and SHORT of a COUNTED slot are set by R7, a SIGNALLED slot
keeps F, and its lamp follows R20 where the emit queue has room (R7, R11, R20, R90). -/
def Obligations.CancelWithdrawsNewestOrder : Prop :=
  ∀ (h : Hop) (position i : Nat) (s : State), s.hearsRack h position i →
    let old := s.slot i
    let route := s.route old.config.route
    let stands := fun (k : Nat) (tour : Tour) (e : Entry) =>
      route.waiting[k]? = some tour ∧ tour.state = .planned ∧ e ∈ tour.entries ∧ e.slot = i ∧ e.state = .waiting
    let newer := fun (created creation c n : Nat) => c < created ∨ (c = created ∧ n < creation)
    let less := fun t : State => t.slot i = { old with
      onOrder := old.onOrder - 1, lamp := (t.slot i).lamp,
      fullBins := if old.config.pullMode = .counted
        then min (old.config.bins - (old.onOrder - 1)) (binsFilled old.onHand old.config.pieces) else old.fullBins,
      shortFlag := if old.config.pullMode = .counted then decide (old.onHand = 0) else old.shortFlag } ∧
      (old.config.pullMode = .signalled → s.emitQueue.length < 32 → t.lampFollows i)
    ((∀ o ∈ s.backlog, o.slot ≠ i) → (∀ k tour e, ¬ stands k tour e) →
      exec (.cancel h position) s
        = .next (s.emit clsLamp old.config.rackStation [4, byte old.config.position])) ∧
    (∀ o ∈ s.backlog, o.slot = i →
      (∀ p ∈ s.backlog, p.slot = i → p ≠ o → newer o.created o.creation p.created p.creation) →
      (∀ k tour e, stands k tour e → newer o.created o.creation e.created e.creation) →
      ∃ t, exec (.cancel h position) s = .next t ∧ t.backlog = s.backlog.erase o ∧ less t ∧
        (∀ j, j ≠ i → t.slot j = s.slot j) ∧
        t = { s with slots := t.slots, backlog := t.backlog, forwardQueue := t.forwardQueue, emitQueue := t.emitQueue,
                     ringOut := t.ringOut, burst := t.burst, flags := t.flags }) ∧
    (∀ (k : Nat) (tour : Tour) (e : Entry), stands k tour e →
      (∀ p ∈ s.backlog, p.slot = i → newer e.created e.creation p.created p.creation) →
      (∀ j other x, stands j other x → (j = k ∧ x = e) ∨ newer e.created e.creation x.created x.creation) →
      ∃ t, exec (.cancel h position) s = .next t ∧ less t ∧
        t.route old.config.route = { route with
          waiting := route.waiting.set k { tour with entries := tour.entries.erase e } } ∧
        (∀ q, q ≠ old.config.route → t.route q = s.route q) ∧ (∀ j, j ≠ i → t.slot j = s.slot j) ∧
        t = { s with slots := t.slots, routes := t.routes, forwardQueue := t.forwardQueue, emitQueue := t.emitQueue,
                     ringOut := t.ringOut, burst := t.burst, flags := t.flags })

/-! ## Vehicles and the line -/

/-- A VEHICLE telegram with a line station above 63, a model code above 15, or the sequence number its station's echo entry
holds is ignored by SU and LM, and is forwarded (R12). -/
def Obligations.VehicleEchoIsIgnored : Prop :=
  ∀ (h : Hop) (station model sequence : Nat) (s : State), s.hearsLine h →
    (63 < station ∨ 15 < model ∨ s.echo[station]? = some (some sequence)) →
    exec (.vehicle h station model sequence) s
      = .next (s.forward (Frame.sent h clsVehicle ([byte 1, byte station, byte model] ++ be16 sequence)))

/-- A new vehicle: the echo entry holds its number. Each in-use COUNTED slot of its station and model loses u pieces, held at
0, F is recomputed, and SHORT follows P with SLOT_SHORT at 0 (R7, R12, R13); every other slot stays. That bit k of model_mask
stands for model code k is the model's choice (log entry 24). Where one slot alone matches and its orders find no tour, it
raises orders of origin COUNT, the k-th dated with P + (k − 1) × Q, while P + O × Q is at or below its reorder point and O
below B, until the backlog holds 64; one refused there sets NOT_TAKEN and BACKLOG_FULL (R13 to R15). In RUN its one order is
placed on the tour the policy picks, with LATE by that tour's arrival (R83, R85). At the pacing station the count of every
running TAKT route falls by one; where no slot matches and one such route runs, a count that so reaches cutoff_lead or 0
brings that mark's event; every other count stays (R43, R45, R103). -/
def Obligations.VehicleConsumesCountedSlots : Prop :=
  ∀ (h : Hop) (station model sequence : Nat) (s : State), s.hearsLine h → station < 64 → model < 16 →
    s.echo[station]? ≠ some (some sequence) →
    let paced := fun r => s.timerRuns r = true ∧ (s.route r).cfg.timing = .takt
    let used := fun i => (s.slot i).consumedBy station model = true
    let left := fun i => (s.slot i).onHand - (s.slot i).config.usage
    let passed := s.forward (Frame.sent h clsVehicle ([byte 1, byte station, byte model] ++ be16 sequence))
    let counted := fun r =>
      if station = s.lineConfig.pacingStation ∧ s.timerRuns r = true ∧ (s.route r).cfg.timing = .takt
      then { s.route r with count := (s.route r).count - 1 } else s.route r
    ((station = s.lineConfig.pacingStation → ∀ r < 8, paced r →
        1 < (s.route r).count ∧ (s.route r).count ≠ (s.route r).cfg.cutoffLead + 1) →
      ((∀ i < 512, used i →
          (s.slot i).config.reorderPoint < left i + (s.slot i).onOrder * (s.slot i).config.pieces ∨
            (s.slot i).config.bins ≤ (s.slot i).onOrder) →
        ∃ t, exec (.vehicle h station model sequence) s = .next t ∧
          t.echo[station]? = some (some sequence) ∧ (∀ k, k ≠ station → t.echo[k]? = s.echo[k]?) ∧
          (∀ i < 512, used i → t.slot i = { s.slot i with
            onHand := left i, shortFlag := decide (left i = 0),
            fullBins := min ((s.slot i).config.bins - (s.slot i).onOrder) (binsFilled (left i) (s.slot i).config.pieces) } ∧
            (left i = 0 → (s.slot i).shortFlag = false → t.flagSet .slotShort = true)) ∧
          (∀ i < 512, ¬ used i → t.slot i = s.slot i) ∧ (∀ r, t.route r = counted r) ∧
          t = { s with slots := t.slots, echo := t.echo, routes := t.routes, forwardQueue := t.forwardQueue, emitQueue := t.emitQueue,
                       ringOut := t.ringOut, burst := t.burst, flags := t.flags }) ∧
      (∀ i n, i < 512 → used i → (∀ j < 512, j ≠ i → ¬ used j) → s.findsNoTour i → s.backlog.length ≤ 64 →
        let c := (s.slot i).config
        let wants := fun k =>
          left i + ((s.slot i).onOrder + k) * c.pieces ≤ c.reorderPoint ∧ (s.slot i).onOrder + k < c.bins
        (∀ k < n, wants k) → ¬ wants n →
        let taken := min n (64 - s.backlog.length)
        ∃ t, exec (.vehicle h station model sequence) s = .next t ∧
          t.slot i = { s.slot i with
            onHand := left i, onOrder := (s.slot i).onOrder + taken, shortFlag := decide (left i = 0),
            fullBins := min (c.bins - ((s.slot i).onOrder + taken)) (binsFilled (left i) c.pieces),
            lostOrder := if taken = 0 then (s.slot i).lostOrder else false,
            notTaken := if taken < n then true else if taken = 0 then (s.slot i).notTaken else false } ∧
          (taken < n → t.flagSet .backlogFull = true) ∧ (∀ j, j ≠ i → t.slot j = s.slot j) ∧
          t.backlog.length = s.backlog.length + taken ∧ (∀ o ∈ s.backlog, o ∈ t.backlog) ∧
          (∀ k < taken, ∃ o ∈ t.backlog, o.slot = i ∧ o.origin = .count ∧ o.created = s.pt ∧
            (dating (left i + k * c.pieces) c.usage c.share c.margin s.takt s.pt)
              = { due := o.due, urgent := o.urgent }) ∧
          (∀ r, t.route r = counted r) ∧
          t = { s with slots := t.slots, echo := t.echo, routes := t.routes, backlog := t.backlog, nextOrderId := t.nextOrderId,
                       creationCount := t.creationCount, forwardQueue := t.forwardQueue, emitQueue := t.emitQueue,
                       ringOut := t.ringOut, burst := t.burst, flags := t.flags }) ∧
      (∀ i (k : Nat) (tour : Tour), i < 512 → used i → (∀ j < 512, j ≠ i → ¬ used j) → s.mode = .run →
        let c := (s.slot i).config
        let wants := fun n =>
          left i + ((s.slot i).onOrder + n) * c.pieces ≤ c.reorderPoint ∧ (s.slot i).onOrder + n < c.bins
        wants 0 → ¬ wants 1 →
        let d := dating (left i) c.usage c.share c.margin s.takt s.pt
        let route := s.route c.route
        let stop := route.effectiveStop c.stop
        s.policyPicks i d.due k → route.waiting[k]? = some tour →
        let late := decide (d.due < tour.arrival route stop)
        ∃ t, exec (.vehicle h station model sequence) s = .next t ∧
          t.slot i = { s.slot i with
            onHand := left i, onOrder := (s.slot i).onOrder + 1, shortFlag := decide (left i = 0),
            fullBins := min (c.bins - ((s.slot i).onOrder + 1)) (binsFilled (left i) c.pieces),
            lostOrder := false, notTaken := false } ∧
          t.route c.route = { counted c.route with waiting := route.waiting.set k { tour with
            entries := insertOrdered Entry.before
              { orderId := s.nextFreeId, created := s.pt, creation := s.creationCount, slot := i, stop := stop,
                due := d.due, urgent := d.urgent, late := late, number := none, state := .waiting } tour.entries } } ∧
          (late = true → t.flagSet .lateOrder = true) ∧
          (∀ j, j ≠ i → t.slot j = s.slot j) ∧ (∀ q, q ≠ c.route → t.route q = counted q) ∧
          t = { s with slots := t.slots, echo := t.echo, routes := t.routes, nextOrderId := t.nextOrderId,
                       creationCount := t.creationCount, forwardQueue := t.forwardQueue, emitQueue := t.emitQueue,
                       ringOut := t.ringOut, burst := t.burst, flags := t.flags })) ∧
    (station = s.lineConfig.pacingStation → (∀ i < 512, ¬ used i) → ∀ r < 8, paced r → (∀ q < 8, paced q → q = r) →
      ∃ later : State, later.echo[station]? = some (some sequence) ∧
        (∀ k, k ≠ station → later.echo[k]? = s.echo[k]?) ∧
        later.route r = { s.route r with count := (s.route r).count - 1 } ∧ (∀ q, q ≠ r → later.route q = s.route q) ∧
        later = { passed with echo := later.echo, routes := later.routes } ∧
        exec (.vehicle h station model sequence) s
          = (if (later.route r).count = 0 then exec (.departureDue r) later
              else if (later.route r).count = (s.route r).cfg.cutoffLead then exec (.cutoffReached r) later
              else .next later))

/-- LINE telegrams away from a restart: RUNNING sets T to the clamped takt with no shift, STOPPED keeps the time of the first
report, and both are forwarded (R99 to R101). -/
def Obligations.LineTelegramsSetLineState : Prop :=
  ∀ (h : Hop) (takt : Nat) (s : State), s.hearsLine h →
    ((∀ since, s.lineState ≠ .stopped since) →
      exec (.lineRunning h takt) s
        = .next { s.forward (Frame.sent h clsLine (byte 1 :: be16 takt)) with
            takt := max 1 (min takt 6000), taktReported := true, lineState := .running } ∧
      exec (.lineStopped h) s
        = .next { s.forward (Frame.sent h clsLine [byte 2]) with lineState := .stopped s.pt }) ∧
    (∀ since, s.lineState = .stopped since →
      exec (.lineStopped h) s = .next (s.forward (Frame.sent h clsLine [byte 2])))

/-- The restart after a stop. With d > 0 ticks stopped, the due time of every live order moves by d, saturating: in the
backlog, on every tour but for its closed entries, and pending in a record; URGENT stays only where the new due time is at or
before now plus the slot's margin (R104, R105). Waiting tours of TAKT routes move their planned departures by d, those of
FIXED routes and RUNNING tours do not; LATE is evaluated on open entries, and the orders of R58 and R81 are restored on
PLANNED tours, in the records and in the backlog. T is the clamped takt and the line runs. With d = 0 nothing shifts (R100,
R102). That an entry whose arrival and due time both saturate is evaluated like any other is the model's choice (log entry
25). -/
def Obligations.RestartShiftsDueTimes : Prop :=
  ∀ (h : Hop) (takt since : Nat) (s : State), s.hearsLine h → s.lineState = .stopped since →
    let due := fun n => min (n + (s.pt - since)) 4294967295
    let urgent := fun slot n => decide (due n ≤ min (s.pt + (s.slot slot).config.margin) 4294967295)
    let moved := fun e : Entry =>
      if e.isOpen then { e with due := due e.due, urgent := e.urgent && urgent e.slot e.due, late := false } else e
    let unmarked := fun e : Entry => if e.isOpen then { e with late := false } else e
    let marked := fun (x : Tour) (r : Nat) =>
      ∀ e ∈ x.entries, e.isOpen = true → e.late = decide (e.due < x.arrival (s.route r) e.stop)
    (s.pt ≤ since →
      exec (.lineRunning h takt) s = .next { s.forward (Frame.sent h clsLine (byte 1 :: be16 takt)) with
        takt := max 1 (min takt 6000), taktReported := true, lineState := .running }) ∧
    (since < s.pt →
      ∃ t, exec (.lineRunning h takt) s = .next t ∧
        t.lineState = .running ∧ t.takt = max 1 (min takt 6000) ∧ t.taktReported = true ∧
        t.backlog.Perm (s.backlog.map fun o => { o with due := due o.due, urgent := o.urgent && urgent o.slot o.due }) ∧
        t.backlog.Pairwise (fun a b => Order.before b a = false) ∧
        (∀ r < 8,
          t.route r = { s.route r with waiting := (t.route r).waiting, running := (t.route r).running } ∧
          (t.route r).waiting.length = (s.route r).waiting.length ∧
          (∀ (k : Nat) (old : Tour), (s.route r).waiting[k]? = some old →
            ∃ new, (t.route r).waiting[k]? = some new ∧
              new = { old with
                entries := new.entries, plannedDeparture :=
                  if (s.route r).cfg.timing = .takt then due old.plannedDeparture else old.plannedDeparture } ∧
              (new.entries.map unmarked).Perm (old.entries.map moved) ∧ marked new r ∧
              (old.state = .planned → new.entries.Pairwise fun a b => Entry.before b a = false) ∧
              (old.state ≠ .planned → new.entries.map unmarked = old.entries.map moved)) ∧
          ((s.route r).running = none → (t.route r).running = none) ∧
          (∀ old, (s.route r).running = some old →
            ∃ new, (t.route r).running = some new ∧ new = { old with entries := new.entries } ∧
              new.entries.map unmarked = old.entries.map moved ∧ marked new r)) ∧
        (∀ k < 4,
          (s.record k = none → t.record k = none) ∧
          (∀ old, s.record k = some old →
            ∃ new, t.record k = some new ∧ new = { old with pending := new.pending } ∧
              new.pending.Perm (old.pending.map fun p =>
                { p with due := due p.due, urgent := p.urgent && urgent p.slot p.due }) ∧
              new.pending.Pairwise fun a b => Pending.before b a = false)) ∧
        (∀ i, t.slot i = { s.slot i with lamp := (t.slot i).lamp }) ∧
        t = { s with slots := t.slots, backlog := t.backlog, routes := t.routes, records := t.records,
                     lineState := t.lineState, takt := t.takt, taktReported := t.taktReported,
                     forwardQueue := t.forwardQueue, emitQueue := t.emitQueue, ringOut := t.ringOut, burst := t.burst,
                     flags := t.flags, draws := t.draws })

/-! ## Counts and timers -/

/-- The cutoff of a route whose timer runs and whose cutoff_lead is above 0. A count above cutoff_lead comes down to it, and
one at or below it stays. A head not held has its planned departure set to now plus count times unit; where that changes its
value, LATE is evaluated on its open entries, and a mark newly set raises LATE_ORDER. A PLANNED head is FROZEN with its
entries numbered from 1 in list order, its pick_state READY, or PICKED where it is empty, and its pick list goes to the pick
station; a FROZEN head changes no more and sends none. A held head, and a route with no tour, change nothing (R46, R61, R64,
R65, R66). The command brings the count to its mark by the model's choice (log entry 4). -/
def Obligations.CutoffFreezesHead : Prop :=
  ∀ (r : Nat) (s : State), r < 8 → s.timerRuns r = true → 0 < (s.route r).cfg.cutoffLead →
    let count := min (s.route r).count (s.route r).cfg.cutoffLead
    ((∀ head ∈ (s.route r).waiting.head?, head.held = true) → s.settled →
      exec (.cutoffReached r) s = .next (s.modRoute r fun ro => { ro with count := count })) ∧
    ∀ (head : Tour) (behind : List Tour), (s.route r).waiting = head :: behind → head.held = false →
      let moved := { head with plannedDeparture := min (s.pt + s.unitTicks r count) 4294967295 }
      let marked := fun e : Entry =>
        if moved.plannedDeparture ≠ head.plannedDeparture ∧ e.isOpen = true
        then { e with late := decide (e.due < moved.arrival (s.route r) e.stop) } else e
      let kept := fun t : State =>
        ((∃ e ∈ head.entries, e.late = false ∧ (marked e).late = true) → t.flagSet .lateOrder = true) ∧
        (∀ q, q ≠ r → t.route q = s.route q) ∧ (∀ i, t.slot i = { s.slot i with lamp := (t.slot i).lamp }) ∧
        t = { s with routes := t.routes, slots := t.slots, reported := t.reported, draws := t.draws, flags := t.flags,
                     forwardQueue := t.forwardQueue, emitQueue := t.emitQueue, ringOut := t.ringOut, burst := t.burst }
      (head.state = .planned →
        ∃ t frozen, exec (.cutoffReached r) s = .next t ∧
          t.route r = { s.route r with count := count, waiting := frozen :: behind } ∧
          frozen = { moved with
            state := .frozen, pickState := some (if head.entries = [] then .picked else .ready),
            entries := frozen.entries } ∧
          frozen.entries.map (fun e => { e with number := none })
            = head.entries.map (fun e => { marked e with number := none }) ∧
          frozen.entries.map Entry.number = (List.range head.entries.length).map (fun k => some (k + 1)) ∧
          s.sendsPickList t r frozen ∧ kept t) ∧
      (head.state = .frozen →
        ∃ t, exec (.cutoffReached r) s = .next t ∧
          t.route r = { s.route r with
            count := count, waiting := { moved with entries := head.entries.map marked } :: behind } ∧
          s.sendsSeries t 1 clsPick (s.route r).cfg.pickStation [] ∧ kept t)

/-- A departure due that finds the head's conditions failing: the count is reloaded, and the head is FROZEN and held with one
slip more, 15 at most; DEPARTURE_HELD stands when it was not held before (R47, R70, R72). A count that passes cutoff_lead on
the way to 0, or a cutoff_lead of 0, brings the cutoff first: a head not held takes it, a PLANNED one is frozen by it (R46,
R64). The command brings the count to its mark, past its cutoff, by the model's choice (log entry 4). -/
def Obligations.DepartureDueHoldsHead : Prop :=
  ∀ (r : Nat) (head : Tour) (behind : List Tour) (s : State), r < 8 → s.timerRuns r = true → s.settled →
    (s.route r).waiting = head :: behind →
    let cutoff := head.held = false ∧ ((s.route r).cfg.cutoffLead = 0 ∨ (s.route r).cfg.cutoffLead < (s.route r).count)
    let pick := if head.state = .planned then some (if head.entries = [] then .picked else .ready) else head.pickState
    (head.state = .frozen ∨ head.state = .planned ∧ cutoff) →
    (pick ≠ some .picked ∨ (s.train r).binding.isReady = false ∨ (s.route r).running.isSome) →
    ∃ t held, exec (.departureDue r) s = .next t ∧
      t.route r = { s.route r with count := (s.route r).cfg.period, waiting := held :: behind } ∧
      held = { head with
        state := .frozen, held := true, slips := min (head.slips + 1) 15, pickState := pick, entries := held.entries,
        plannedDeparture := if cutoff then min (s.pt + s.unitTicks r (s.route r).cfg.cutoffLead) 4294967295
          else head.plannedDeparture } ∧
      held.entries.map Entry.orderId = head.entries.map Entry.orderId ∧
      held.entries.map Entry.number = (if head.state = .planned
        then (List.range head.entries.length).map fun k => some (k + 1) else head.entries.map Entry.number) ∧
      (¬ cutoff → held.entries = head.entries) ∧
      (head.held = false → t.flagSet .departureHeld = true) ∧
      (∀ q, q ≠ r → t.route q = s.route q) ∧ (∀ i, t.slot i = { s.slot i with lamp := (t.slot i).lamp }) ∧
      t = { s with routes := t.routes, slots := t.slots, draws := t.draws, flags := t.flags,
                   forwardQueue := t.forwardQueue, emitQueue := t.emitQueue, ringOut := t.ringOut, burst := t.burst }

/-- A departure due that finds all five conditions: the head becomes the RUNNING tour with planned_departure now, its entries
LOADED in their order with LATE evaluated, with the window and limit of its route; the train goes ON_TOUR, the silence timer
starts and the confirmation timer does not; the count is reloaded (R47, R70, R71, R117). An empty PLANNED head that the cutoff
freezes on the way departs too (R66). The train is sent the ROUTE_ORDER, with every stop of the route's stop list (R38, R118).
The command brings the count to its mark, past its cutoff, by the model's choice (log entry 4). -/
def Obligations.DepartureDueDepartsHead : Prop :=
  ∀ (r : Nat) (head : Tour) (behind : List Tour) (train capacity : Nat) (s : State), r < 8 → s.timerRuns r = true →
    (s.route r).cfg.cutoffLead < (s.route r).cfg.period → (s.route r).waiting = head :: behind →
    (head.state = .frozen ∧ head.pickState = some .picked ∨
      head.state = .planned ∧ head.entries = [] ∧ head.held = false ∧
        ((s.route r).cfg.cutoffLead = 0 ∨ (s.route r).cfg.cutoffLead < (s.route r).count)) →
    (s.train r).binding = .bound train capacity .ready → (s.route r).running = none →
    ∃ t gone, exec (.departureDue r) s = .next t ∧ (t.route r).running = some gone ∧
      gone.number = head.number ∧ gone.state = .running ∧ gone.plannedDeparture = s.pt ∧ gone.held = false ∧
      gone.slips = head.slips ∧ gone.pickState = none ∧ gone.currentStop = some (-1) ∧
      gone.entries.map Entry.orderId = head.entries.map Entry.orderId ∧
      (∀ e ∈ gone.entries, e.state = .loaded ∧ e.late = decide (e.due < gone.arrival (s.route r) e.stop)) ∧
      gone.window = windowOf (s.route r).cfg.confirmCode ∧ gone.limit = limitOf (s.route r).cfg.silenceLimit ∧
      (t.route r).count = (s.route r).cfg.period ∧
      (t.train r).binding = .bound train capacity .onTour ∧ (t.train r).silenceTimer = gone.limit ∧
      (t.train r).confirmTimer = none ∧ s.sendsRouteOrder t 1 r train gone ∧
      (head.plan = none → (gone.stopList (s.route r)).map (fun x => (x.stop, x.marker))
        = (List.range (s.route r).cfg.stopCount).map fun j => (j, (stopEntry (s.route r).stops j).marker.getD 0)) ∧
      (∀ q, q ≠ r → t.train q = s.train q) ∧
      (∀ q, q ≠ r → t.route q = s.route q) ∧ t.backlog.Sublist s.backlog ∧
      t = { s with routes := t.routes, trains := t.trains, backlog := t.backlog, slots := t.slots, reported := t.reported,
                   draws := t.draws, flags := t.flags, forwardQueue := t.forwardQueue, emitQueue := t.emitQueue,
                   ringOut := t.ringOut, burst := t.burst }

/-- A held FROZEN head departs late at the event that completes its conditions: a PICK_DONE, a CHECK_ACCEPT that binds its
route, the RETURN of the tour before it, or a departure due. It runs from now; the tours behind it are planned at the later of
what they had and whole periods from now; the train is sent its ROUTE_ORDER; the new head takes its cutoff where the count
stands at or below cutoff_lead, and no event but the departure due reloads the count (R63, R68, R71, R73, R74, R77, R114,
R118). DEPARTURE_DUE brings the count to its mark by the model's choice (log entry 4). -/
def Obligations.HeldHeadDepartsLate : Prop :=
  ∀ (h : Hop) (r train capacity offer left : Nat) (head : Tour) (behind : List Tour) (s : State), r < 8 →
    (s.route r).waiting = head :: behind → head.state = .frozen → head.held = true →
    (∀ x ∈ behind, x.state = .planned ∧ x.held = false) →
    let count := (s.route r).count
    ((s.train r).binding = .bound train capacity .ready → (s.route r).running = none →
      (s.hearsPickStation h r → head.pickState ≠ some .picked →
        ∃ t, exec (.pickDone h r head.number) s = .next t ∧ s.departedLate t r head behind train capacity count) ∧
      (s.timerRuns r = true → head.pickState = some .picked → (s.route r).cfg.cutoffLead < (s.route r).cfg.period →
        ∃ t, exec (.departureDue r) s = .next t ∧
          s.departedLate t r head behind train capacity (s.route r).cfg.period)) ∧
    (s.hearsBridge h train → s.boundOnlyTo train r → head.pickState = some .picked →
      ((s.train r).binding = .offered train capacity left → (s.train r).offerNumber = offer →
        (s.route r).running = none →
        ∃ t, exec (.checkAccept h r train offer) s = .next t ∧
          s.departedLate t r head behind train capacity count) ∧
      ((s.train r).binding = .bound train capacity .onTour → (s.route r).running.isSome →
        ∃ t, exec (.trainReturn h r train) s = .next t ∧ s.departedLate t r head behind train capacity count))

/-- The confirmation timer of a running tour runs out: every entry of its current stop that is AT_STOP becomes PRESUMED and
every other entry stays; each presumed entry lowers its slot's O by one; PRESUMED_DELIVERY stands when there is one;
current_stop stays and the timer stops (R122, R17). The command brings the timer to its end by the model's choice (log entry
4). -/
def Obligations.ConfirmationTimerPresumes : Prop :=
  ∀ (r ticks stop : Nat) (tour : Tour) (s : State), r < 8 → (s.route r).running = some tour →
    (s.train r).confirmTimer = some ticks → tour.currentStop = some (stop : Int) →
    ∃ t after, exec (.confirmationTimerExpiry r) s = .next t ∧ (t.route r).running = some after ∧
      after = { tour with entries := tour.entries.map fun e =>
        if e.state = .atStop ∧ e.stop = stop then { e with state := .presumed } else e } ∧
      (∀ i < 512, (t.slot i).onOrder = (s.slot i).onOrder
        - (tour.entries.filter fun e => e.state = .atStop ∧ e.stop = stop ∧ e.slot = i).length) ∧
      ((∃ e ∈ tour.entries, e.state = .atStop ∧ e.stop = stop) → t.flagSet .presumedDelivery = true) ∧
      t.train r = { s.train r with confirmTimer := none } ∧ (∀ q, q ≠ r → t.train q = s.train q) ∧
      t.route r = { s.route r with running := some after } ∧ (∀ q, q ≠ r → t.route q = s.route q) ∧
      (∀ i, (t.slot i).config = (s.slot i).config) ∧
      t = { s with routes := t.routes, trains := t.trains, slots := t.slots, reported := t.reported, draws := t.draws,
                   flags := t.flags, forwardQueue := t.forwardQueue, emitQueue := t.emitQueue, ringOut := t.ringOut,
                   burst := t.burst }

/-- The silence timer of a running tour runs out: the tour leaves the board, the route is UNBOUND, both timers stop and
TOUR_INTERRUPTED stands, with cause SILENT. Its open entries are kept pending in the free record of lowest id, or are
dissolved into the backlog where the tour was resumed three times or no record is free; nothing is kept of a tour with none
(R126, R129, R133, R134, R135, R145). The command brings the timer to its end by the model's choice (log entry 4). -/
def Obligations.SilenceTimerInterruptsTour : Prop :=
  ∀ (r ticks train capacity : Nat) (tour : Tour) (s : State), r < 8 → s.settled →
    (s.route r).running = some tour →
    (s.train r).silenceTimer = some ticks → (s.train r).binding = .bound train capacity .onTour →
    ∃ t, exec (.silenceTimerExpiry r) s = .next t ∧ t.route r = { s.route r with running := none } ∧
      (∀ q, q ≠ r → t.route q = s.route q ∧ t.train q = s.train q) ∧
      t.train r = { s.train r with binding := .unbound, silenceTimer := none, confirmTimer := none } ∧
      t.flagSet .tourInterrupted = true ∧ s.tourKept t r tour train .silent ∧
      t = { s with routes := t.routes, trains := t.trains, records := t.records, backlog := t.backlog, slots := t.slots,
                   draws := t.draws, flags := t.flags, forwardQueue := t.forwardQueue, emitQueue := t.emitQueue,
                   ringOut := t.ringOut, burst := t.burst }

/-! ## The pick handshake -/

/-- PICK_START and PICK_DONE for the FROZEN head, not held: READY becomes PICKING by the first, READY and PICKING become
PICKED by the second, and the others are ignored; for any other tour number each is answered REJECT(TOUR_CLOSED) to the pick
station (R67, R68). -/
def Obligations.PickReportsMoveHead : Prop :=
  ∀ (h : Hop) (r tour : Nat) (head : Tour) (behind : List Tour) (p : PickState) (s : State), s.hearsPickStation h r →
    (s.route r).waiting = head :: behind → head.state = .frozen → head.held = false → head.pickState = some p →
    (head.number = tour →
      (exec (.pickStart h r tour) s
        = .next (s.modRoute r fun ro => { ro with
            waiting := { head with pickState := some (if p = .ready then .picking else p) } :: behind })) ∧
      (exec (.pickDone h r tour) s
        = .next (s.modRoute r fun ro => { ro with waiting := { head with pickState := some .picked } :: behind }))) ∧
    (head.number ≠ tour →
      exec (.pickStart h r tour) s
        = .next (s.emit clsPick h.src ([6, byte r] ++ be16 tour ++ [3, 8])) ∧
      exec (.pickDone h r tour) s
        = .next (s.emit clsPick h.src ([6, byte r] ++ be16 tour ++ [4, 8])))

/-- PICK_SHORT of an entry of the head, the route's one waiting tour: the entry leaves the tour, the rest keep their numbers,
PICK_SHORT stands, and with room in the backlog its order returns there with origin PICK_SHORT and the slots' counts stay; a
full backlog drops it: its slot loses one from O and has LOST_ORDER, and ORDER_DROPPED stands. On a PICKED head it is answered
REJECT(TOUR_CLOSED), and for a number no entry has REJECT(DUPLICATE) (R18, R69, R87, R89). -/
def Obligations.PickShortReturnsOrder : Prop :=
  ∀ (h : Hop) (r tour number : Nat) (head : Tour) (s : State), s.hearsPickStation h r →
    (s.route r).waiting = [head] → head.state = .frozen → head.number = tour →
    (∀ e ∈ head.entries, e.number = some number → (head.pickState = some .ready ∨ head.pickState = some .picking) →
      (∀ x ∈ head.entries, x.number = some number → x = e) → s.backlog.length ≤ 64 →
      ∃ t, exec (.pickShort h r tour number) s = .next t ∧
        t.route r = { s.route r with
          waiting := [{ head with entries := head.entries.filter fun x => x.number != some number }] } ∧
        t.flagSet .pickShort = true ∧ (∀ q, q ≠ r → t.route q = s.route q) ∧
        (s.backlog.length < 64 → t.backlog = insertOrdered Order.before (e.toOrder .pickShort) s.backlog ∧
          ∀ i, t.slot i = { s.slot i with lamp := (t.slot i).lamp }) ∧
        (s.backlog.length = 64 → t.backlog = s.backlog ∧ t.flagSet .orderDropped = true ∧
          (∀ i, i ≠ e.slot → t.slot i = s.slot i) ∧
          (e.slot < 512 → (t.slot e.slot).onOrder = (s.slot e.slot).onOrder - 1 ∧
            (t.slot e.slot).lostOrder = true ∧ (t.slot e.slot).onHand = (s.slot e.slot).onHand ∧
            (t.slot e.slot).config = (s.slot e.slot).config)) ∧
        t = { s with routes := t.routes, backlog := t.backlog, slots := t.slots, draws := t.draws, flags := t.flags,
                     forwardQueue := t.forwardQueue, emitQueue := t.emitQueue, ringOut := t.ringOut,
                     burst := t.burst }) ∧
    (head.pickState = some .picked →
      exec (.pickShort h r tour number) s = .next (s.emit clsPick h.src ([6, byte r] ++ be16 tour ++ [5, 8]))) ∧
    ((head.pickState = some .ready ∨ head.pickState = some .picking) →
      (∀ e ∈ head.entries, e.number ≠ some number) →
      exec (.pickShort h r tour number) s = .next (s.emit clsPick h.src ([6, byte r] ++ be16 tour ++ [5, 7])))

/-! ## Trains -/

/-- A CHECK_IN that passes the checks of R112 makes the route OFFERED to the train with the next offer number and 100 ticks,
and sends CHECK_OFFER; a route not enabled, a route bound to another train and a capacity of 0 or above 48 are refused with
NOT_ENABLED, BOUND and CAPACITY (R112, R113). An offer whose timer runs out lapses: the route becomes UNBOUND, keeps its offer
number, and nothing else changes; on a route that is not OFFERED nothing does (R115). The command brings the timer to its end
by the model's choice (log entry 4). -/
def Obligations.CheckInMakesOffer : Prop :=
  (∀ (h : Hop) (r train capacity : Nat) (s : State), s.hearsBridge h train → s.boundNowhere train →
    ((8 ≤ r ∨ (s.route r).enabled = false) →
      exec (.checkIn h r train capacity) s = .next (s.rejected h.src r train 1 1)) ∧
    (∀ other size state, r < 8 → (s.route r).enabled = true → (s.train r).binding = .bound other size state →
      exec (.checkIn h r train capacity) s = .next (s.rejected h.src r train 1 2)) ∧
    (r < 8 → (s.route r).enabled = true → (s.train r).binding = .unbound →
      ((capacity = 0 ∨ 48 < capacity ∨ ∃ x ∈ (s.route r).waiting, capacity < x.entries.length) →
        exec (.checkIn h r train capacity) s = .next (s.rejected h.src r train 1 3)) ∧
      (1 ≤ capacity → capacity ≤ 48 → (∀ x ∈ (s.route r).waiting, x.entries.length ≤ capacity) →
        ∃ t, exec (.checkIn h r train capacity) s = .next t ∧
          t.train r = { s.train r with
            binding := .offered train capacity 100,
            offerNumber := if (s.train r).offerNumber < 255 then (s.train r).offerNumber + 1 else 0 } ∧
          (∀ q, q ≠ r → t.train q = s.train q) ∧
          t = { s.emit clsTrainDown h.src ([1, byte r, byte train, byte (t.train r).offerNumber]
                  ++ be16 (((s.route r).waiting.head?.map Tour.number).getD 0) ++ [byte (s.route r).cfg.stopCount]) with
                trains := t.trains }))) ∧
  ∀ (r train capacity left : Nat) (s : State), r < 8 →
    ((s.train r).binding = .offered train capacity left →
      ∃ t, exec (.offerTimerExpiry r) s = .next t ∧
        t.train r = { s.train r with binding := .unbound } ∧ (∀ q, q ≠ r → t.train q = s.train q) ∧
        t = { s with trains := t.trains }) ∧
    ((s.train r).binding.trainId = none ∨ (s.train r).binding.boundTrain.isSome →
      exec (.offerTimerExpiry r) s = .next s)

/-- A CHECK_ACCEPT from the offered train with the open offer's number binds the route READY with the offer's capacity; the
backlog gives orders to the route's tours alone, and no tour departs where the head is not held. A repeated one changes
nothing, and any other is refused with OFFER: one of another train or number, on a route UNBOUND, OFFERED or BOUND, or of no
such route; but for the silence timers of a running tour of that train, a refusal changes nothing else (R86, R114, R126). -/
def Obligations.AcceptBindsTrain : Prop :=
  ∀ (h : Hop) (r train offer capacity left : Nat) (s : State), s.hearsBridge h train →
    (r < 8 → (s.train r).binding = .offered train capacity left → (s.train r).offerNumber = offer →
      s.boundOnlyTo train r → (∀ head ∈ (s.route r).waiting.head?, head.held = false) →
      ∃ t, exec (.checkAccept h r train offer) s = .next t ∧
        t.train r = { s.train r with binding := .bound train capacity .ready } ∧
        (∀ q, q ≠ r → t.train q = s.train q ∧ t.route q = s.route q) ∧ t.backlog.Sublist s.backlog ∧
        (t.route r).waiting.map Tour.number = (s.route r).waiting.map Tour.number ∧
        t.route r = { s.route r with waiting := (t.route r).waiting } ∧
        (∀ i, t.slot i = { s.slot i with lamp := (t.slot i).lamp }) ∧
        t = { s with routes := t.routes, trains := t.trains, backlog := t.backlog, slots := t.slots, draws := t.draws,
                     flags := t.flags, forwardQueue := t.forwardQueue, emitQueue := t.emitQueue, ringOut := t.ringOut,
                     burst := t.burst }) ∧
    (r < 8 → (s.train r).binding = .bound train capacity .ready → (s.train r).offerNumber = offer →
      s.boundOnlyTo train r → (s.route r).running = none → exec (.checkAccept h r train offer) s = .next s) ∧
    (8 ≤ r ∨ (s.train r).binding.trainId ≠ some train ∨ (s.train r).offerNumber ≠ offer →
      ∃ t, exec (.checkAccept h r train offer) s = .next t ∧
        (∀ q, t.train q = { s.train q with silenceTimer := (t.train q).silenceTimer }) ∧
        (∀ q < 8, (s.train q).binding.boundTrain ≠ some train ∨ (s.route q).running = none → t.train q = s.train q) ∧
        t = { s.rejected h.src r train 2 4 with trains := t.trains })

/-- A SIGN_OFF by the state of its route: BOUND with the train READY, and OFFERED, become UNBOUND without an answer, the
offer number kept; ON_TOUR is refused with BUSY and stays BOUND; a train that holds neither is refused with NOT_BOUND, wherever
else it may be bound (R116). -/
def Obligations.SignOffUnbinds : Prop :=
  ∀ (h : Hop) (r train capacity left : Nat) (s : State), s.hearsBridge h train → r < 8 →
    (s.boundOnlyTo train r →
      ((s.train r).binding = .bound train capacity .ready → (s.route r).running = none →
        exec (.signOff h r train) s = .next (s.modTrain r fun u => { u with binding := .unbound })) ∧
      ((s.train r).binding = .offered train capacity left →
        exec (.signOff h r train) s = .next (s.modTrain r fun u => { u with binding := .unbound })) ∧
      ((s.train r).binding = .bound train capacity .onTour →
        ∃ t, exec (.signOff h r train) s = .next t ∧ (t.train r).binding = (s.train r).binding ∧
          (∀ q, q ≠ r → t.train q = s.train q) ∧ t = { s.rejected h.src r train 3 5 with trains := t.trains })) ∧
    ((s.train r).binding.trainId ≠ some train →
      ∃ t, exec (.signOff h r train) s = .next t ∧
        (∀ q, t.train q = { s.train q with silenceTimer := (t.train q).silenceTimer }) ∧
        t = { s.rejected h.src r train 3 6 with trains := t.trains })

/-- A PASS of a later stop j of the running tour: AT_STOP entries of the current stop become PRESUMED and credit their slots,
LOADED entries between become SKIPPED, those of stop j AT_STOP, and current_stop is j; the confirmation timer runs where an
entry became AT_STOP, the silence timer is set back, and the train is sent the STOP_LIST series of stop j. A marker of no
stop, or of one at or below current_stop, raises MARKER_ERROR and moves nothing (R119, R120, R121, R122, R126). -/
def Obligations.PassMovesEntries : Prop :=
  ∀ (h : Hop) (r train capacity marker : Nat) (tour : Tour) (s : State), s.hearsBridge h train → r < 8 →
    s.boundOnlyTo train r → (s.train r).binding = .bound train capacity .onTour → (s.route r).running = some tour →
    let silence := if tour.limit = none then (s.train r).silenceTimer else tour.limit
    let found := (tour.stopList (s.route r)).find? fun x => x.marker == marker
    (∀ stop, found = some stop → tour.currentStop.getD (-1) < (stop.stop : Int) →
      let presumed := fun e : Entry => decide (e.state = .atStop ∧ tour.currentStop = some (e.stop : Int))
      let arrives := fun e : Entry => decide (e.state = .loaded ∧ e.stop = stop.stop)
      ∃ t after, exec (.pass h r train marker) s = .next t ∧
        after = { tour with
          currentStop := some (stop.stop : Int),
          entries := tour.entries.map fun e =>
            if presumed e then { e with state := .presumed }
            else if arrives e then { e with state := .atStop }
            else if e.state = .loaded ∧ tour.currentStop.getD (-1) < (e.stop : Int) ∧ e.stop < stop.stop then
              { e with state := .skipped }
            else e } ∧
        t.route r = { s.route r with running := some after } ∧
        t.train r = { s.train r with
          silenceTimer := silence, confirmTimer := if tour.entries.any arrives then tour.window else none } ∧
        (∀ q, q ≠ r → t.route q = s.route q ∧ t.train q = s.train q) ∧
        (∀ i < 512, (t.slot i).onOrder = (s.slot i).onOrder
          - (tour.entries.filter fun e => presumed e && e.slot == i).length ∧ (t.slot i).config = (s.slot i).config) ∧
        (tour.entries.any presumed → t.flagSet .presumedDelivery = true) ∧
        s.sendsStopList t r train tour.number stop.stop (tour.entries.filter arrives) ∧
        t = { s with routes := t.routes, trains := t.trains, slots := t.slots, draws := t.draws, flags := t.flags,
                     forwardQueue := t.forwardQueue, emitQueue := t.emitQueue, ringOut := t.ringOut,
                     burst := t.burst }) ∧
    ((found = none ∨ ∃ stop, found = some stop ∧ (stop.stop : Int) ≤ tour.currentStop.getD (-1)) →
      ∃ t, exec (.pass h r train marker) s = .next t ∧ t.train r = { s.train r with silenceTimer := silence } ∧
        (∀ q, q ≠ r → t.train q = s.train q) ∧ t = { s.raise .markerError with trains := t.trains })

/-- A DELIVERED for an entry of the running tour: LOADED, AT_STOP and SKIPPED become CONFIRMED with one credit of the slot,
PRESUMED becomes CONFIRMED_LATE without one, and the confirmation timer stops with the last AT_STOP entry of the current
stop; the lamp of a SIGNALLED slot credited becomes SHORT, LATE, ORDERED or OFF by R20 where the emit queue has room. A closed
entry and a number of no entry are refused with DUPLICATE (R17, R20, R123, R124). -/
def Obligations.DeliveredConfirmsEntry : Prop :=
  ∀ (h : Hop) (r train capacity number : Nat) (tour : Tour) (s : State), s.hearsBridge h train → r < 8 →
    s.boundOnlyTo train r → (s.train r).binding = .bound train capacity .onTour → (s.route r).running = some tour →
    let silence := if tour.limit = none then (s.train r).silenceTimer else tour.limit
    let found := tour.entries.find? fun e => e.number == some number
    (∀ e, found = some e → (e.state = .loaded ∨ e.state = .atStop ∨ e.state = .skipped ∨ e.state = .presumed) →
      ∃ t after, exec (.delivered h r train tour.number number) s = .next t ∧
        after = { tour with entries := tour.entries.map fun x =>
          if x.number = some number then
            { x with state := if e.state = .presumed then .confirmedLate else .confirmed } else x } ∧
        t.route r = { s.route r with running := some after } ∧
        t.train r = { s.train r with
          silenceTimer := silence,
          confirmTimer :=
            if e.state = .atStop ∧ ∀ x ∈ after.entries, ¬ (x.state = .atStop ∧ tour.currentStop = some (x.stop : Int))
            then none else (s.train r).confirmTimer } ∧
        (∀ q, q ≠ r → t.route q = s.route q ∧ t.train q = s.train q) ∧
        (∀ i, i ≠ e.slot ∨ e.state = .presumed → t.slot i = s.slot i) ∧
        (e.slot < 512 → e.state ≠ .presumed →
          (t.slot e.slot).onHand = min ((s.slot e.slot).onHand + (s.slot e.slot).config.pieces) 65535 ∧
          (t.slot e.slot).onOrder = (s.slot e.slot).onOrder - 1 ∧
          (t.slot e.slot).config = (s.slot e.slot).config ∧
          ((s.slot e.slot).config.pullMode = .signalled →
            (t.slot e.slot).fullBins = min (s.slot e.slot).config.bins ((s.slot e.slot).fullBins + 1) ∧
            ((s.slot e.slot).config.inUse = true → s.emitQueue.length < 32 → t.lampFollows e.slot))) ∧
        t = { s with routes := t.routes, trains := t.trains, slots := t.slots, flags := t.flags,
                     forwardQueue := t.forwardQueue, emitQueue := t.emitQueue, ringOut := t.ringOut,
                     burst := t.burst }) ∧
    ((found = none ∨ ∃ e, found = some e ∧ (e.state = .confirmed ∨ e.state = .confirmedLate)) →
      ∃ t, exec (.delivered h r train tour.number number) s = .next t ∧
        t.train r = { s.train r with silenceTimer := silence } ∧ (∀ q, q ≠ r → t.train q = s.train q) ∧
        t = { s.emit clsTrainDown h.src
                ([4, byte r, byte train, 5, 7] ++ be16 tour.number ++ [byte number]) with trains := t.trains })

/-- A DELIVERED of the record's train for a pending entry of a live record: the slot is credited and the entry leaves the
record, which is freed with ITR_SETTLED when it was the last; another train is refused with NOT_BOUND, and a number of no
pending entry with DUPLICATE. No timer moves (R123, R137, R138). -/
def Obligations.DeliveredSettlesRecord : Prop :=
  ∀ (h : Hop) (r train tour number k : Nat) (kept : Record) (s : State), s.hearsBridge h train → r < 8 → k < 4 →
    (∀ x ∈ (s.route r).running, x.number ≠ tour) → s.record k = some kept → kept.route = r → kept.tour = tour →
    (∀ j < k, ∀ other ∈ s.record j, ¬ (other.route = r ∧ other.tour = tour)) →
    let left := kept.pending.filter fun p => p.number != number
    (kept.train = train → ∀ p, kept.pending.find? (fun p => p.number == number) = some p →
      ∃ t, exec (.delivered h r train tour number) s = .next t ∧
        t.record k = (if left = [] then none else some { kept with pending := left }) ∧
        (∀ j, j ≠ k → t.record j = s.record j) ∧ (left = [] → t.flagSet .itrSettled = true) ∧
        (∀ i, i ≠ p.slot → t.slot i = s.slot i) ∧
        (p.slot < 512 → (t.slot p.slot).onOrder = (s.slot p.slot).onOrder - 1 ∧
          (t.slot p.slot).onHand = min ((s.slot p.slot).onHand + (s.slot p.slot).config.pieces) 65535 ∧
          (t.slot p.slot).config = (s.slot p.slot).config) ∧
        t = { s with records := t.records, slots := t.slots, flags := t.flags, forwardQueue := t.forwardQueue,
                     emitQueue := t.emitQueue, ringOut := t.ringOut, burst := t.burst }) ∧
    (kept.train ≠ train →
      exec (.delivered h r train tour number) s = .next (s.emit clsTrainDown h.src
        ([4, byte r, byte train, 5, 6] ++ be16 tour ++ [byte number]))) ∧
    (kept.train = train → (∀ p ∈ kept.pending, p.number ≠ number) →
      exec (.delivered h r train tour number) s = .next (s.emit clsTrainDown h.src
        ([4, byte r, byte train, 5, 7] ++ be16 tour ++ [byte number])))

/-- A RETURN ends the running tour, where no head is held: AT_STOP entries credit their slots as PRESUMED, LOADED and SKIPPED
entries return to the backlog with origin RETURNED while it has room, the tour leaves the board, both timers stop and the train
is READY. A full backlog drops every returning order: its slot loses one from O and has LOST_ORDER, and ORDER_DROPPED stands
(R18, R87, R89, R127). -/
def Obligations.ReturnEndsTour : Prop :=
  ∀ (h : Hop) (r train capacity : Nat) (tour : Tour) (s : State), s.hearsBridge h train → r < 8 →
    s.boundOnlyTo train r → (s.train r).binding = .bound train capacity .onTour → (s.route r).running = some tour →
    (∀ head ∈ (s.route r).waiting.head?, head.held = false) →
    let back := tour.entries.filter fun e => e.state == .loaded || e.state == .skipped
    let here := tour.entries.filter fun e => e.state == .atStop
    ∃ t, exec (.trainReturn h r train) s = .next t ∧
      t.route r = { s.route r with running := none } ∧
      t.train r = { s.train r with
        binding := .bound train capacity .ready, confirmTimer := none, silenceTimer := none } ∧
      (∀ q, q ≠ r → t.route q = s.route q ∧ t.train q = s.train q) ∧
      (s.backlog.length + back.length ≤ 64 →
        t.backlog.Perm (s.backlog ++ back.map fun e => e.toOrder .returned) ∧
        ∀ i < 512, (t.slot i).onOrder = (s.slot i).onOrder - here.countP fun e => e.slot == i) ∧
      (s.backlog.length = 64 → t.backlog = s.backlog ∧ (back ≠ [] → t.flagSet .orderDropped = true) ∧
        ∀ i < 512, (t.slot i).onOrder = (s.slot i).onOrder - (here ++ back).countP (fun e => e.slot == i) ∧
          ((∃ e ∈ back, e.slot = i) → (t.slot i).lostOrder = true)) ∧
      (∀ i, (t.slot i).config = (s.slot i).config) ∧
      (here ≠ [] → t.flagSet .presumedDelivery = true) ∧
      t = { s with routes := t.routes, trains := t.trains, backlog := t.backlog, slots := t.slots, draws := t.draws,
                   flags := t.flags, forwardQueue := t.forwardQueue, emitQueue := t.emitQueue, ringOut := t.ringOut,
                   burst := t.burst }

/-- A FAULT of the bound train. Of a train READY with no tour it makes the route UNBOUND and no more. A running tour leaves the
board, its train is unbound, its timers stop and TOUR_INTERRUPTED stands, with cause REPORTED and its code. The tour's open
entries are kept pending in the free record of lowest id with the fault stop and the stop list from it on, or are dissolved
into the backlog where the tour was resumed three times or no record is free; nothing is kept of a tour with none (R129, R130,
R133, R134, R135, R145). -/
def Obligations.FaultCapturesTour : Prop :=
  ∀ (h : Hop) (r train capacity code : Nat) (s : State), s.hearsBridge h train → r < 8 → s.boundOnlyTo train r →
    ((s.train r).binding = .bound train capacity .ready → (s.route r).running = none →
      exec (.trainFault h r train code) s = .next (s.modTrain r fun u => { u with binding := .unbound })) ∧
    (∀ tour : Tour, (s.train r).binding = .bound train capacity .onTour → (s.route r).running = some tour →
      ∃ t, exec (.trainFault h r train code) s = .next t ∧
        t.route r = { s.route r with running := none } ∧
        t.train r = { s.train r with binding := .unbound, confirmTimer := none, silenceTimer := none } ∧
        (∀ q, q ≠ r → t.route q = s.route q ∧ t.train q = s.train q) ∧
        t.flagSet .tourInterrupted = true ∧ s.tourKept t r tour train (.reported code) ∧
        t = { s with routes := t.routes, trains := t.trains, records := t.records, backlog := t.backlog,
                     slots := t.slots, draws := t.draws, flags := t.flags, forwardQueue := t.forwardQueue,
                     emitQueue := t.emitQueue, ringOut := t.ringOut, burst := t.burst })

/-- Telegrams of a train that holds no route and no live record: PASS, RETURN, FAULT, SIGN_OFF and DELIVERED are refused with
NOT_BOUND, CHECK_ACCEPT with OFFER; and a PASS or RETURN of a bound train with no running tour with TOUR_CLOSED. A refusal
changes nothing else (R111, R120, R123, R127, R131). -/
def Obligations.StrangersAreRefused : Prop :=
  ∀ (h : Hop) (r train x tour entry : Nat) (s : State), s.hearsBridge h train →
    (s.boundNowhere train → (∀ k < 4, ∀ kept ∈ s.record k, kept.train ≠ train) →
      exec (.pass h r train x) s = .next (s.rejected h.src r train 4 6) ∧
      exec (.trainReturn h r train) s = .next (s.rejected h.src r train 6 6) ∧
      exec (.trainFault h r train x) s = .next (s.rejected h.src r train 7 6) ∧
      exec (.signOff h r train) s = .next (s.rejected h.src r train 3 6) ∧
      exec (.checkAccept h r train x) s = .next (s.rejected h.src r train 2 4) ∧
      exec (.delivered h r train tour entry) s
        = .next (s.emit clsTrainDown h.src ([4, byte r, byte train, 5, 6] ++ be16 tour ++ [byte entry]))) ∧
    (r < 8 → s.boundOnlyTo train r → (s.train r).binding.boundTrain = some train → (s.route r).running = none →
      exec (.pass h r train x) s = .next (s.rejected h.src r train 4 8) ∧
      exec (.trainReturn h r train) s = .next (s.rejected h.src r train 6 8))

/-! ## Requests: refusals, identity and commissioning -/

/-- MU's own refusals, in order: a kind none of the seventeen (UNKNOWN_KIND), a source that is not the server for any kind
but IDENTIFY (NOT_SERVER), a kind the mode does not take (STATE, and LOCKED for COMMISSION), and a TABLE_WRITE, SAVE,
DECOMMISSION or START while a store operation runs (BUSY). A refused request changes nothing (R162, R163, Table 10-2). That a
refused COMMISSION's reply carries the serial is the model's reading (log entry 15). -/
def Obligations.RefusedRequestsChangeNothing : Prop :=
  ∀ (c : Instr) (e : Envelope) (q : Request) (kind : Nat) (s : State), s.attends → s.station = some e.dst →
    e.src ≠ e.dst →
    exec (.unknownKindRequest e kind) s = .next (s.answered e kind 1 []) ∧
    (requestOf c = some (e, q) →
      let data := if q.kind = .commission then be48 s.serial else []
      (s.server ≠ some e.src → q.kind ≠ .identify → exec c s = .next (s.answered e q.kind.code 2 data)) ∧
      (s.server = some e.src →
        (q.kind = .commission → exec c s = .next (s.answered e 2 13 data)) ∧
        (s.mode = .setup → q.kind = .halt → exec c s = .next (s.answered e 5 3 [])) ∧
        (s.mode = .run → q.kind ∈ [RequestKind.decommission, .start, .timeSet, .save] →
          exec c s = .next (s.answered e q.kind.code 3 [])) ∧
        (s.storeOp.isSome → (q.kind = .tableWrite ∨ s.mode = .setup ∧ q.kind ∈ [RequestKind.save, .decommission, .start]) →
          exec c s = .next (s.answered e q.kind.code 5 []))))

/-- IDENTIFY, from any station, returns the unit serial, the station number, the mode, TIME_UNSET and the reset-cause record,
and clears nothing; in UNCOMMISSIONED the broadcast is forwarded as well and the station number reads 0. CAUSE_READ returns
the reset-cause record and then clears STORE_INTERRUPTED (R155, R164, R171). -/
def Obligations.IdentityAndCauseAreRead : Prop :=
  ∀ (e : Envelope) (s : State),
    let cause := byte (match s.cause with | .power => 1 | .pin => 2 | .command => 3)
    let unset := byte (if s.timeUnset then 1 else 0)
    let interrupted := byte (if s.storeInterrupted then 1 else 0)
    (s.attends → s.station = some e.dst → e.src ≠ e.dst →
      exec (.identify e) s = .next (s.answered e 1 0 (be48 s.serial
        ++ [byte e.dst, byte (match s.mode with | .uncommissioned => 0 | .setup => 1 | .run => 2), unset, cause,
          interrupted]))) ∧
    (s.resetLow = false → s.mode = .uncommissioned → s.settled → s.commissionSound → e.dst = 255 →
      s.formerStation ≠ some e.src →
      exec (.identify e) s = .next ((s.forward (requestFrame (.identify e) e .identify)).answered e 1 0
        (be48 s.serial ++ [0, 0, unset, cause, interrupted]))) ∧
    (s.hearsServer e →
      exec (.causeRead e) s = .next { s.answered e 17 0 [cause, interrupted] with storeInterrupted := false })

/-- A broadcast COMMISSION in UNCOMMISSIONED that carries the unit serial: with two stations 1 to 254 that differ it is
answered with source 0, sets both, clears the former station number and enters SETUP; otherwise it is refused with RANGE. One
that carries another serial is forwarded and does nothing else (R152, R155, R164). That a refused one's reply carries the
serial is the model's reading (log entry 15). -/
def Obligations.CommissionSetsRecord : Prop :=
  ∀ (e : Envelope) (serial station server : Nat) (s : State), s.resetLow = false → s.mode = .uncommissioned →
    s.settled → s.commissionSound → e.dst = 255 → s.formerStation ≠ some e.src →
    let f := requestFrame (.commission e serial station server) e (.commission serial station server)
    (serial = s.serial → 1 ≤ station → station ≤ 254 → 1 ≤ server → server ≤ 254 → station ≠ server →
      exec (.commission e serial station server) s
        = .next { (s.forward f).answered e 2 0 (be48 s.serial) with
            station := some station, server := some server, formerStation := none, mode := .setup }) ∧
    (serial = s.serial → (station = 0 ∨ 255 ≤ station ∨ server = 0 ∨ 255 ≤ server ∨ station = server) →
      exec (.commission e serial station server) s = .next ((s.forward f).answered e 2 4 (be48 s.serial))) ∧
    (serial ≠ s.serial → exec (.commission e serial station server) s = .next (s.forward f))

/-- DECOMMISSION in SETUP starts the erase and is answered at its end; at the end the reply leaves under the old station
number, that number is kept as the former one, the commission record, the tables, the backlog and the alert flags take their
no-image state, and the queues, PT and TIME_UNSET stay (R165). That ERASE_COMPLETION ends the erase at any tick and does
nothing with no operation running is the model's choice (log entry 4); that the old image is gone from the erase's start is
its reading (log entry 18). -/
def Obligations.DecommissionEmptiesPart : Prop :=
  ∀ (e : Envelope) (op : StoreOp) (s : State),
    (s.hearsServer e → s.mode = .setup → s.storeOp = none →
      exec (.decommission e) s = .next { s with
        store := .started,
        storeOp := some { work := .erase, replyTo := e.src, number := e.number % 256, elapsed := 0 } }) ∧
    (s.storeOp = some op → op.work = .erase →
      exec .eraseCompletion s = .next { s.emit clsMaintReply op.replyTo [3, byte op.number, 0] with
        formerStation := s.station, station := none, server := none, mode := .uncommissioned,
        slots := Vector.replicate 512 (Slot.fresh SlotConfig.blank), echo := Vector.replicate 64 none, reported := [],
        backlog := [], nextOrderId := 1, creationCount := 0, routes := Vector.replicate 8 Route.blank,
        trains := Vector.replicate 8 TrainUnit.blank, records := Vector.replicate 4 none,
        lineConfig := { pacingStation := 0, defaultTakt := 600, radioBridge := 0 }, lineState := .unknown, takt := 600,
        taktReported := false, mask := 0, flags := 0, store := .empty, storeOp := none }) ∧
    (s.storeOp = none → exec .eraseCompletion s = .next s)

/-! ## Requests: modes and the clock -/

/-- START from SETUP with empty boards: the part enters RUN; every enabled route with a depth has that many waiting tours,
the k-th planned for now plus count plus k periods, saturating, the head FROZEN exactly where the count is at or below the
cutoff_lead; the backlog gives orders to the tours and gains none; other routes stay (R53, R62, R64, R92). -/
def Obligations.StartBuildsTours : Prop :=
  ∀ (e : Envelope) (s : State), s.hearsServer e → s.mode = .setup → s.quietOutsideRun → s.storeOp = none →
    ∃ t, exec (.start e) s = .next t ∧ t.mode = .run ∧
      (∀ r < 8, (s.route r).enabled = true → 1 ≤ (s.route r).cfg.depth →
        (t.route r).waiting.map Tour.plannedDeparture = (List.range (s.route r).cfg.depth).map (fun k =>
          min (s.pt + s.unitTicks r ((s.route r).count + k * (s.route r).cfg.period)) 4294967295) ∧
        (t.route r).waiting.map Tour.state = (List.range (s.route r).cfg.depth).map (fun k =>
          if k = 0 ∧ (s.route r).count ≤ (s.route r).cfg.cutoffLead then .frozen else .planned) ∧
        (t.route r).running = none ∧ (t.route r).count = (s.route r).count ∧
        (t.route r).config = (s.route r).config ∧ (t.route r).stops = (s.route r).stops ∧
        (t.route r).enabled = true) ∧
      (∀ r, (s.route r).enabled = false → t.route r = s.route r) ∧ t.backlog.Sublist s.backlog ∧
      (∀ i, t.slot i = { s.slot i with lamp := (t.slot i).lamp }) ∧
      t = { s with mode := .run, routes := t.routes, backlog := t.backlog, slots := t.slots, draws := t.draws,
                   flags := t.flags, forwardQueue := t.forwardQueue, emitQueue := t.emitQueue, ringOut := t.ringOut,
                   burst := t.burst }

/-- HALT in RUN: refused with ROUTE_BUSY while a tour is RUNNING or a record live, and with BACKLOG_SPACE when the backlog
has no room for every waiting entry; taken, it returns the part to SETUP with every board empty, each waiting entry back in
the backlog with origin HALTED, and counts, numbers, enabled states and bindings kept (R88, R93, R94). -/
def Obligations.HaltDissolvesTours : Prop :=
  ∀ (e : Envelope) (s : State), s.hearsServer e → s.mode = .run →
    let waiting := (List.range 8).flatMap fun r => (s.route r).waiting.flatMap Tour.entries
    (((∃ r < 8, (s.route r).running.isSome) ∨ ∃ k < 4, (s.record k).isSome) →
      exec (.halt e) s = .next (s.answered e 5 7 [])) ∧
    ((∀ r < 8, (s.route r).running = none) → s.recordsFree → 64 < s.backlog.length + waiting.length →
      exec (.halt e) s = .next (s.answered e 5 9 [])) ∧
    ((∀ r < 8, (s.route r).running = none) → s.recordsFree → s.backlog.length + waiting.length ≤ 64 →
      ∃ t, exec (.halt e) s = .next t ∧ (∀ r < 8, t.route r = { s.route r with waiting := [] }) ∧
        t.backlog.Perm (s.backlog ++ waiting.map fun x => x.toOrder .halted) ∧
        (∀ i, t.slot i = { s.slot i with lamp := (t.slot i).lamp }) ∧
        t = { s with mode := .setup, routes := t.routes, backlog := t.backlog, slots := t.slots, draws := t.draws,
                     flags := t.flags, forwardQueue := t.forwardQueue, emitQueue := t.emitQueue, ringOut := t.ringOut,
                     burst := t.burst })

/-- TIME_SET in SETUP sets PT, clears TIME_UNSET and moves stopped_since to the new time; the largest time raises
TIME_SATURATED at once. When PT reaches it by counting it holds there and TIME_SATURATED is raised; at that value nothing more
happens (R108, R166). The command brings PT to that value by the model's choice (log entry 4); that the ALERT of the largest
time stands before the reply is its reading (log entry 14). -/
def Obligations.PlantTimeIsSetAndHolds : Prop :=
  ∀ (e : Envelope) (time : Nat) (s : State),
    (s.hearsServer e → s.mode = .setup →
      let now := { s with
        pt := time, timeUnset := false,
        lineState := match s.lineState with | .stopped _ => .stopped time | x => x }
      (time < 4294967295 → exec (.timeSet e time) s = .next (now.answered e 6 0 [])) ∧
      (time = 4294967295 → exec (.timeSet e time) s = .next ((now.raise .timeSaturated).answered e 6 0 []))) ∧
    (s.resetLow = false → s.pt < 4294967295 →
      exec .ptSaturation s = .next (State.raise { s with pt := 4294967295 } .timeSaturated)) ∧
    (s.resetLow = false → s.pt = 4294967295 → exec .ptSaturation s = .next s)

/-! ## Requests: tables -/

/-- A SLOT write answers RANGE, SLOT_BUSY or DUPLICATE_KEY by its first failing check and then changes nothing; taken, it
replaces the static fields, sets the dynamic ones to their starting values, sends no lamp, and in SETUP removes the slot's
backlog orders (R4, R5, R90). -/
def Obligations.SlotWriteStartsAfresh : Prop :=
  ∀ (e : Envelope) (i : Nat) (w : SlotRecord) (s : State), s.hearsServer e → s.storeOp = none →
    ((512 ≤ i ∨ slotInRange w = false) → exec (.tableWriteSlot e i w) s = .next (s.answered e 7 4 [])) ∧
    (i < 512 → slotInRange w = true →
      let clash := w.inUse = 1 ∧ ∃ j < 512, j ≠ i ∧ (s.slot j).config.inUse = true ∧
        (s.slot j).config.rackStation = w.rackStation ∧ (s.slot j).config.position = w.position
      (s.mode = .run → (s.slot i).onOrder ≠ 0 →
        exec (.tableWriteSlot e i w) s = .next (s.answered e 7 6 [])) ∧
      ((s.mode = .setup ∨ (s.slot i).onOrder = 0) → clash →
        exec (.tableWriteSlot e i w) s = .next (s.answered e 7 8 [])) ∧
      ((s.mode = .setup ∨ (s.slot i).onOrder = 0) → ¬ clash →
        exec (.tableWriteSlot e i w) s = .next (State.answered
          (State.modSlot
            { s with backlog := if s.mode = .setup then s.backlog.filter fun o => o.slot != i else s.backlog } i
            fun _ =>
              { config :=
                  { inUse := w.inUse == 1, rackStation := w.rackStation, position := w.position, partTag := w.partTag,
                    route := w.route, stop := w.stop, bins := w.bins, pieces := w.pieces,
                    pullMode := if w.pullMode = 1 then .counted else .signalled, lineStation := w.lineStation,
                    modelMask := BitVec.ofNat 16 w.modelMask, usage := w.usage, share := w.share,
                    reorderPoint := w.reorderPoint, margin := w.margin },
                onHand := w.bins * w.pieces, fullBins := w.bins, onOrder := 0, shortFlag := false, lostOrder := false,
                notTaken := false, lamp := .off })
          e 7 0 [])))

/-- ROUTE and STOPS writes: refused with RANGE for an index, field or stop list out of range, with ROUTE_BUSY on an enabled
route; a taken ROUTE write sets the static fields and the count to the new period, a taken STOPS write one stop entry, and
nothing else of the route changes (R40, R41). -/
def Obligations.RouteWritesNeedDisabledRoute : Prop :=
  ∀ (e : Envelope) (i : Nat) (w : RouteRecord) (k offset marker : Nat) (s : State), s.hearsServer e → s.storeOp = none →
    let fits := i < 8 ∧ routeInRange w = true ∧ validStops (s.route i).stops w.stopCount = true
    let entry := { offset := offset, marker := some marker : StopEntry }
    let stored := i < 8 ∧ k < 24 ∧ offset ≤ 36000 ∧ 1 ≤ marker ∧ marker ≤ 255 ∧
      ((s.route i).config.isSome → k < (s.route i).cfg.stopCount →
        validStops (setStop (s.route i).stops k offset marker) (s.route i).cfg.stopCount = true)
    (¬ fits → exec (.tableWriteRoute e i w) s = .next (s.answered e 7 4 [])) ∧
    (fits → (s.route i).enabled = true → exec (.tableWriteRoute e i w) s = .next (s.answered e 7 7 [])) ∧
    (fits → (s.route i).enabled = false →
      exec (.tableWriteRoute e i w) s = .next (State.answered
        (s.modRoute i fun ro => { ro with
          count := w.period,
          config := some
            { timing := if w.timingMode = 1 then .takt else .fixed, period := w.period, cutoffLead := w.cutoffLead,
              depth := w.depth, binLimit := w.binLimit, policy := if w.policy = 1 then .latestFit else .earliest,
              pickStation := w.pickStation, confirmCode := w.confirmCode, silenceLimit := w.silenceLimit,
              stopCount := w.stopCount } })
        e 7 0 [])) ∧
    (¬ stored → exec (.tableWriteStops e i k offset marker) s = .next (s.answered e 7 4 [])) ∧
    (stored → (s.route i).enabled = true →
      exec (.tableWriteStops e i k offset marker) s = .next (s.answered e 7 7 [])) ∧
    (stored → (s.route i).enabled = false →
      ∃ t : State, exec (.tableWriteStops e i k offset marker) s = .next (t.answered e 7 0 []) ∧
        (t.route i).stops[k]? = some entry ∧ (∀ j, j ≠ k → (t.route i).stops[j]? = (s.route i).stops[j]?) ∧
        t.route i = { s.route i with stops := (t.route i).stops } ∧ (∀ q, q ≠ i → t.route q = s.route q) ∧
        t = { s with routes := t.routes })

/-- A LINE_CONFIG write is taken in SETUP alone, and T follows the default until a takt has been reported (R97). An
ALERT_MASK write replaces the mask, in both modes; an ALERT_ACK clears the named flags and no other, and sends no ALERT
telegram (R169). That the index of either write is not read is the model's choice (log entry 16). -/
def Obligations.LineAndMaskAreWritten : Prop :=
  ∀ (e : Envelope) (index pacing takt bridge enables named : Nat) (s : State), s.hearsServer e →
    (s.storeOp = none →
      (s.mode = .run →
        exec (.tableWriteLineConfig e index pacing takt bridge) s = .next (s.answered e 7 3 [])) ∧
      (s.mode = .setup → (63 < pacing ∨ takt = 0 ∨ 6000 < takt ∨ bridge = 0 ∨ 254 < bridge) →
        exec (.tableWriteLineConfig e index pacing takt bridge) s = .next (s.answered e 7 4 [])) ∧
      (s.mode = .setup → pacing ≤ 63 → 1 ≤ takt → takt ≤ 6000 → 1 ≤ bridge → bridge ≤ 254 →
        exec (.tableWriteLineConfig e index pacing takt bridge) s = .next (State.answered { s with
          lineConfig := { pacingStation := pacing, defaultTakt := takt, radioBridge := bridge },
          takt := if s.taktReported then s.takt else takt } e 7 0 [])) ∧
      exec (.tableWriteAlertMask e index enables) s
        = .next (State.answered { s with mask := BitVec.ofNat 16 enables } e 7 0 [])) ∧
    exec (.alertAck e named) s
      = .next (State.answered { s with flags := s.flags &&& ~~~ (BitVec.ofNat 16 named) } e 14 0 [])

/-- Reads answer with what stands and change nothing. A TABLE_READ returns as many whole records as fit from the index on, and
stops at the end of the table: up to 5 slots, 8 routes, 24 stops of a route, the line configuration, the alert mask. A
STATE_READ returns slots 14 at most, a route's board from a tour and an entry on, backlog orders 5 at most, a record, the line
state, the part. An index beyond its table is refused with RANGE: a slot above 511, a route above 7, a stop above 23, a backlog
position above 63, a record id above 3 (R42, R76, R96, R109, R147, R167, Tables 11-6 and 11-10). The model's own are: that the
index of LINE and PART is not read (log entry 17), what SAVE shows while it runs (18), a board read from entry 0 of an empty
tour (21), a pending entry beyond its list (22), and the code of an order's URGENT byte (26). -/
def Obligations.ReadsReturnTablesAndState : Prop :=
  ∀ (e : Envelope) (i k skipped a b : Nat) (s : State), s.hearsServer e →
    (i < 512 → exec (.tableReadSlot e i) s = .next (s.answered e 8 0 (byte (min 5 (512 - i))
      :: (List.range (min 5 (512 - i))).flatMap fun j => (s.slot (i + j)).config.bytes))) ∧
    (512 ≤ i → exec (.tableReadSlot e i) s = .next (s.answered e 8 4 [])) ∧
    (i < 8 → exec (.tableReadRoute e i) s = .next (s.answered e 8 0 (byte (8 - i)
      :: (List.range (8 - i)).flatMap fun j => (s.route (i + j)).cfg.bytes))) ∧
    (8 ≤ i → exec (.tableReadRoute e i) s = .next (s.answered e 8 4 [])) ∧
    (i < 8 → k < 24 → exec (.tableReadStops e i k) s = .next (s.answered e 8 0 (byte (24 - k)
      :: (List.range (24 - k)).flatMap fun j => (stopEntry (s.route i).stops (k + j)).bytes))) ∧
    ((8 ≤ i ∨ 24 ≤ k) → exec (.tableReadStops e i k) s = .next (s.answered e 8 4 [])) ∧
    exec (.tableReadLineConfig e 0) s = .next (s.answered e 8 0
      ([1, byte s.lineConfig.pacingStation] ++ be16 s.lineConfig.defaultTakt ++ [byte s.lineConfig.radioBridge])) ∧
    exec (.tableReadAlertMask e 0) s = .next (s.answered e 8 0 (1 :: be16 s.mask.toNat)) ∧
    (i < 512 → exec (.stateReadSlot e i skipped) s = .next (s.answered e 9 0 (byte (min 14 (512 - i))
      :: (List.range (min 14 (512 - i))).flatMap fun j => (s.slot (i + j)).dynamicBytes (i + j)))) ∧
    (512 ≤ i → exec (.stateReadSlot e i skipped) s = .next (s.answered e 9 4 [])) ∧
    (i < 8 → exec (.stateReadRoute e i a b) s = .next (s.answered e 9 0 (s.readRoute i a b))) ∧
    (8 ≤ i → exec (.stateReadRoute e i a b) s = .next (s.answered e 9 4 [])) ∧
    (i < 64 → exec (.stateReadBacklog e i skipped) s = .next (s.answered e 9 0
      ([byte s.backlog.length] ++ be16 s.nextOrderId ++ be32 s.creationCount ++ [byte (min 5 (s.backlog.length - i))]
        ++ (((s.backlog.zipIdx.drop i).take 5).flatMap fun x => x.1.bytes x.2)))) ∧
    (64 ≤ i → exec (.stateReadBacklog e i skipped) s = .next (s.answered e 9 4 [])) ∧
    (i < 4 → s.record i = none → exec (.stateReadRecord e i a b) s = .next (s.answered e 9 0 [0])) ∧
    (i < 4 → ∀ kept, s.record i = some kept →
      exec (.stateReadRecord e i 0 b) s = .next (s.answered e 9 0 (1 :: kept.fieldBytes)) ∧
      exec (.stateReadRecord e i 1 b) s = .next (s.answered e 9 0 (1 :: kept.pendingBytes b))) ∧
    (4 ≤ i → exec (.stateReadRecord e i a b) s = .next (s.answered e 9 4 [])) ∧
    exec (.stateReadLine e i skipped) s = .next (s.answered e 9 0
      ([byte (match s.lineState with | .unknown => 0 | .running => 1 | .stopped _ => 2)] ++ be16 s.takt
        ++ be32 (match s.lineState with | .stopped since => since | _ => 0)
        ++ [byte (if s.taktReported then 1 else 0)])) ∧
    exec (.stateReadPart e i skipped) s = .next (s.answered e 9 0
      ([byte (match s.mode with | .uncommissioned => 0 | .setup => 1 | .run => 2)] ++ be32 s.pt
        ++ [byte (if s.timeUnset then 1 else 0)] ++ be16 s.flags.toNat ++ be16 s.mask.toNat
        ++ [byte (if s.storeOp.isSome then 1 else 0),
            byte (match s.store with | .valid im => (if im.autoStart then 1 else 0) | _ => 0)]))

/-! ## Requests: routes -/

/-- ROUTE_ENABLE: RANGE above 7, STATE on a record not configured; an enabled route changes nothing. In SETUP it marks the
route and no more. In RUN, on an empty board, it appends tours up to the depth, the k-th planned for now plus count plus k
periods, and the backlog drains onto them (R50, R62). -/
def Obligations.EnableMarksRoute : Prop :=
  ∀ (e : Envelope) (r : Nat) (s : State), s.hearsServer e →
    (8 ≤ r → exec (.routeEnable e r) s = .next (s.answered e 10 4 [])) ∧
    (r < 8 → (s.route r).config = none → exec (.routeEnable e r) s = .next (s.answered e 10 3 [])) ∧
    (r < 8 → (s.route r).config.isSome →
      ((s.route r).enabled = true → exec (.routeEnable e r) s = .next (s.answered e 10 0 [])) ∧
      ((s.route r).enabled = false → s.mode = .setup →
        exec (.routeEnable e r) s
          = .next (State.answered (s.modRoute r fun ro => { ro with enabled := true }) e 10 0 [])) ∧
      ((s.route r).enabled = false → s.mode = .run → (s.route r).waiting = [] →
        ∃ t, exec (.routeEnable e r) s = .next t ∧
          (t.route r).waiting.map Tour.plannedDeparture = (List.range (s.route r).cfg.depth).map (fun k =>
            min (s.pt + s.unitTicks r ((s.route r).count + k * (s.route r).cfg.period)) 4294967295) ∧
          t.route r = { s.route r with
            enabled := true, waiting := (t.route r).waiting, nextTour := (t.route r).nextTour } ∧
          (∀ q, q ≠ r → t.route q = s.route q) ∧ t.backlog.Sublist s.backlog ∧
          (∀ i, t.slot i = { s.slot i with lamp := (t.slot i).lamp }) ∧
          t = { s with routes := t.routes, backlog := t.backlog, slots := t.slots, draws := t.draws, flags := t.flags,
                       forwardQueue := t.forwardQueue, emitQueue := t.emitQueue, ringOut := t.ringOut,
                       burst := t.burst }))

/-- ROUTE_DISABLE: RANGE above 7, ROUTE_BUSY with a RUNNING tour or a held head, BACKLOG_SPACE when the waiting entries do
not fit; a route not enabled changes nothing. Taken, the waiting entries return to the backlog with origin DISSOLVED, the
board is empty, the count is kept, and the binding drops to UNBOUND, its train told with REJECT(NOT_ENABLED) (R51, R52). -/
def Obligations.DisableDissolvesTours : Prop :=
  ∀ (e : Envelope) (r : Nat) (s : State), s.hearsServer e →
    (8 ≤ r → exec (.routeDisable e r) s = .next (s.answered e 11 4 [])) ∧
    (r < 8 →
      let waiting := (s.route r).waiting.flatMap Tour.entries
      let busy := (s.route r).running.isSome ∨ ∃ head ∈ (s.route r).waiting.head?, head.held = true
      (busy → exec (.routeDisable e r) s = .next (s.answered e 11 7 [])) ∧
      (¬ busy → 64 < s.backlog.length + waiting.length →
        exec (.routeDisable e r) s = .next (s.answered e 11 9 [])) ∧
      (¬ busy → s.backlog.length + waiting.length ≤ 64 →
        ((s.route r).enabled = false → exec (.routeDisable e r) s = .next (s.answered e 11 0 [])) ∧
        ((s.route r).enabled = true →
          ∃ t, exec (.routeDisable e r) s = .next t ∧
            t.route r = { s.route r with enabled := false, waiting := [] } ∧
            t.train r = { s.train r with binding := .unbound } ∧
            (∀ q, q ≠ r → t.route q = s.route q ∧ t.train q = s.train q) ∧
            t.backlog.Perm (s.backlog ++ waiting.map fun x => x.toOrder .dissolved) ∧
            (waiting = [] → ∀ train, (s.train r).binding.trainId = some train →
              t = { (s.rejected s.lineConfig.radioBridge r train 0 1).answered e 11 0 [] with
                    routes := t.routes, trains := t.trains }) ∧
            (∀ i, t.slot i = { s.slot i with lamp := (t.slot i).lamp }) ∧
            t = { s with routes := t.routes, trains := t.trains, backlog := t.backlog, slots := t.slots,
                         draws := t.draws, flags := t.flags, forwardQueue := t.forwardQueue, emitQueue := t.emitQueue,
                         ringOut := t.ringOut, burst := t.burst })))

/-- ROUTE_RELOAD: RANGE above 7, STATE on a record not configured; otherwise the count becomes the period. In SETUP, or on a
disabled route, nothing else changes; in RUN the waiting tours of an enabled route are re-based on the new count, a held head
keeping its planned departure (R48, R49). -/
def Obligations.ReloadRebasesTours : Prop :=
  ∀ (e : Envelope) (r : Nat) (s : State), s.hearsServer e →
    (8 ≤ r → exec (.routeReload e r) s = .next (s.answered e 12 4 [])) ∧
    (r < 8 → (s.route r).config = none → exec (.routeReload e r) s = .next (s.answered e 12 3 [])) ∧
    (r < 8 → (s.route r).config.isSome →
      ((s.mode = .setup ∨ (s.route r).enabled = false) →
        exec (.routeReload e r) s
          = .next (State.answered (s.modRoute r fun ro => { ro with count := ro.cfg.period }) e 12 0 [])) ∧
      (s.mode = .run → (s.route r).enabled = true →
        ∃ t, exec (.routeReload e r) s = .next t ∧
          (∀ head behind, (s.route r).waiting = head :: behind →
            (t.route r).waiting.map Tour.plannedDeparture
              = (if head.held then head.plannedDeparture
                  else min (s.pt + s.unitTicks r (s.route r).cfg.period) 4294967295)
                :: (List.range behind.length).map fun k =>
                    min (s.pt + s.unitTicks r ((if head.held then k + 1 else k + 2) * (s.route r).cfg.period))
                      4294967295) ∧
          (t.route r).waiting.map Tour.number = (s.route r).waiting.map Tour.number ∧
          t.route r = { s.route r with count := (s.route r).cfg.period, waiting := (t.route r).waiting } ∧
          (∀ q, q ≠ r → t.route q = s.route q) ∧
          (∀ i, t.slot i = { s.slot i with lamp := (t.slot i).lamp }) ∧
          t = { s with routes := t.routes, slots := t.slots, draws := t.draws, flags := t.flags,
                       forwardQueue := t.forwardQueue, emitQueue := t.emitQueue, ringOut := t.ringOut,
                       burst := t.burst }))

/-! ## Requests: interrupted tour records -/

/-- RESOLVE with DISSOLVE: NO_RECORD for a record that is free or not there, MISMATCH for another stamp, BACKLOG_SPACE when
the pending entries do not fit; taken, each pending order enters the backlog with origin DISSOLVED and the record is free
(R139, R140). -/
def Obligations.DissolveReturnsPending : Prop :=
  ∀ (e : Envelope) (k route tour : Nat) (s : State), s.hearsServer e →
    (s.record k = none → exec (.resolveDissolve e k route tour) s = .next (s.answered e 13 10 [])) ∧
    (∀ kept, s.record k = some kept →
      (¬ (kept.route = route ∧ kept.tour = tour) →
        exec (.resolveDissolve e k route tour) s = .next (s.answered e 13 11 [])) ∧
      (kept.route = route → kept.tour = tour →
        (64 < s.backlog.length + kept.pending.length →
          exec (.resolveDissolve e k route tour) s = .next (s.answered e 13 9 [])) ∧
        (s.backlog.length + kept.pending.length ≤ 64 →
          ∃ t, exec (.resolveDissolve e k route tour) s = .next t ∧ t.record k = none ∧
            (∀ j, j ≠ k → t.record j = s.record j) ∧
            t.backlog.Perm (s.backlog ++ kept.pending.map fun p => p.toOrder .dissolved) ∧
            (∀ i, t.slot i = { s.slot i with lamp := (t.slot i).lamp }) ∧
            t = { s with records := t.records, backlog := t.backlog, slots := t.slots, draws := t.draws,
                         flags := t.flags, forwardQueue := t.forwardQueue, emitQueue := t.emitQueue,
                         ringOut := t.ringOut, burst := t.burst })))

/-- RESOLVE with RESUME: NOT_READY unless the record's route is BOUND with its train READY and has no RUNNING tour; taken,
the record's tour runs again under its number with resume count one higher, its pending entries LOADED under their numbers
and orders, its saved stop list, fault stop, window and limit; the bound train is sent the ROUTE_ORDER of the saved stop list,
and the record is free (R139, R141, R143, R144). -/
def Obligations.ResumeRunsTourAgain : Prop :=
  ∀ (e : Envelope) (k : Nat) (kept : Record) (s : State), s.hearsServer e → s.record k = some kept → kept.route < 8 →
    (((s.train kept.route).binding.isReady = false ∨ (s.route kept.route).running.isSome) →
      exec (.resolveResume e k kept.route kept.tour) s = .next (s.answered e 13 12 [])) ∧
    (∀ train capacity, (s.train kept.route).binding = .bound train capacity .ready →
      (s.route kept.route).running = none →
      ∃ t tour, exec (.resolveResume e k kept.route kept.tour) s = .next t ∧
        t.route kept.route = { s.route kept.route with running := some tour } ∧
        tour = { number := kept.tour, state := .running, plannedDeparture := s.pt, held := false, slips := 0,
                 pickState := none, entries := tour.entries, currentStop := some (-1),
                 plan := some { stops := kept.stops, faultStop := kept.faultStop }, window := kept.window,
                 limit := kept.limit, resumeCount := kept.resumeCount + 1 } ∧
        tour.entries.map Entry.orderId = kept.pending.map Pending.orderId ∧
        tour.entries.map Entry.number = (kept.pending.map fun p => some p.number) ∧
        (∀ x ∈ tour.entries, x.state = .loaded) ∧ s.sendsRouteOrder t 1 kept.route train tour ∧
        t.train kept.route = { s.train kept.route with
          binding := .bound train capacity .onTour, silenceTimer := kept.limit, confirmTimer := none } ∧
        (∀ q, q ≠ kept.route → t.route q = s.route q ∧ t.train q = s.train q) ∧
        t.record k = none ∧ (∀ j, j ≠ k → t.record j = s.record j) ∧
        (∀ i, t.slot i = { s.slot i with lamp := (t.slot i).lamp }) ∧
        t = { s with routes := t.routes, trains := t.trains, records := t.records, slots := t.slots, draws := t.draws,
                     flags := t.flags, forwardQueue := t.forwardQueue, emitQueue := t.emitQueue, ringOut := t.ringOut,
                     burst := t.burst })

/-! ## Requests: the store and the resets -/

/-- SAVE in SETUP copies the settings and is answered at its end, when the image is valid and SAVE_DONE is raised; an
auto-start value above 1 is refused with RANGE (R170). A start-up that finds the image, after a power-on, a RESET_N low and
released or the reset of a RESTART, loads it and enters SETUP, or with auto-start RUN with the tours of its enabled routes
(R53, R171, R172). That SAVE_COMPLETION ends the save at any tick and does nothing with no operation running is the model's
choice (log entry 4); that the old image is gone from the start of a store operation is its reading (log entry 18). -/
def Obligations.SaveKeepsSettings : Prop :=
  ∀ (e : Envelope) (auto : Nat) (op : StoreOp) (im : Image) (s old : State),
    (s.hearsServer e → s.mode = .setup → s.storeOp = none →
      (2 ≤ auto → exec (.save e auto) s = .next (s.answered e 15 4 [])) ∧
      (auto ≤ 1 → exec (.save e auto) s = .next { s with
        store := .started,
        storeOp := some
          { work := .write (s.imageOf (auto == 1)), replyTo := e.src, number := e.number % 256, elapsed := 0 } })) ∧
    (s.storeOp = some op → op.work = .write im →
      exec .saveCompletion s = .next (State.raise
        (State.emit { s with store := .valid im, storeOp := none } clsMaintReply op.replyTo [15, byte op.number, 0])
        .saveDone)) ∧
    (s.storeOp = none → exec .saveCompletion s = .next s) ∧
    (∀ starts, s.resetLow = false → old.station.isSome → old.server.isSome → s.store = .valid (old.imageOf starts) →
      (∃ t, exec .powerOn s = .next t ∧ s.startedFrom t old starts .power ∧ t.storeInterrupted = false) ∧
      (∃ low t, exec .resetNLow s = .next low ∧ exec .resetNRelease low = .next t ∧ s.startedFrom t old starts .pin ∧
        t.storeInterrupted = s.storeInterrupted) ∧
      (s.restartLeaves = true → ∃ t, exec .commandReset s = .next t ∧ s.startedFrom t old starts .command ∧
        t.storeInterrupted = s.storeInterrupted))

/-- The resets with an empty store, or with one that holds a start mark: power-on, RESET_N low and its release, and the reset a
RESTART waits for return every block to its reset values and record their cause; they keep the serial and (but for power-on)
STORE_INTERRUPTED. Start-up finds a start mark by setting STORE_INTERRUPTED and erasing the store. While the pin is low the
part waits. RESTART is answered OK, or resets at once at a full emit queue; the end of its reply's transmission, and nothing
before it, brings the reset (R160, R161, R171, R172). What a part held in reset does, and that COMMAND_RESET is that end or
does nothing, are the model's (log entries 4 and 5). -/
def Obligations.ResetsReturnResetValues : Prop :=
  ∀ (e : Envelope) (x : Sending) (s : State), (s.store = .empty ∨ s.store = .started) →
    let clear := fun (cause : ResetCause) => { State.reset with
      serial := s.serial, cause := cause, draws := s.draws, pending := s.pending }
    let found := decide (s.store = .started)
    let restarted := { clear .command with
      storeInterrupted := s.storeInterrupted || found, resetLow := s.resetLow }
    (s.resetLow = false →
      exec .powerOn s = .next { clear .power with storeInterrupted := found } ∧
      exec .resetNLow s
        = .next { clear .pin with storeInterrupted := s.storeInterrupted, store := s.store, resetLow := true } ∧
      exec .resetNRelease s = .next s) ∧
    (s.resetLow = true →
      exec .powerOn s = .next { clear .power with store := s.store, resetLow := true } ∧
      exec .resetNLow s = .next s ∧
      exec .resetNRelease s
        = .next { s with resetLow := false, store := .empty, storeInterrupted := s.storeInterrupted || found }) ∧
    (s.hearsServer e → s.emitQueue.length < 32 → exec (.restart e) s = .next (s.answered e 16 0 [])) ∧
    (s.hearsServer e → 32 ≤ s.emitQueue.length → exec (.restart e) s = .next restarted) ∧
    (s.ringOut = some x → x.own = true → x.frame.answersRestart = true →
      exec .commandReset s = .next restarted ∧ exec .transmissionEnd s = .next restarted) ∧
    (s.ringOut = none → exec .commandReset s = .next s) ∧
    (s.ringOut = some x → (x.own && x.frame.answersRestart) = false → exec .commandReset s = .next s)

/-! ## Invariants -/

/-- At reset the part meets every invariant below. The reset state's empty store and serial are the model's choice (log
entries 1 and 2). -/
def Obligations.ResetMeetsInvariants : Prop :=
  State.reset.linkBounded ∧ State.reset.ringKept ∧ State.reset.backlogSound ∧ State.reset.slotsWithinRacks ∧ State.reset.ordersAccounted ∧
  State.reset.entriesSound ∧ State.reset.racksSized ∧ State.reset.commissionSound ∧ State.reset.quietOutsideRun ∧
  State.reset.toursHaveTrains ∧ State.reset.settled

/-- Every step keeps LU's queues and the arbiter's count within their sizes, and leaves ring-out idle only with both queues
empty (R157, R159). -/
def Obligations.LinkStaysBounded : Prop :=
  ∀ s t : State, step s = .next t → (s.linkBounded → t.linkBounded) ∧ (s.ringKept → t.ringKept)

/-- Every step keeps the backlog within its size and in its one order (R79, R81). -/
def Obligations.BacklogStaysSound : Prop := ∀ s t : State, s.backlogSound → step s = .next t → t.backlogSound

/-- Every step keeps F + O at or below B for every slot, in use or not (R6). -/
def Obligations.SlotsStayWithinRacks : Prop :=
  ∀ s t : State, s.slotsWithinRacks → step s = .next t → t.slotsWithinRacks

/-- Every step keeps O of every slot equal to its live orders, in the backlog, on the boards and pending in the records, and
keeps each live order in exactly one of these places under an id of its own (R6, R79, R82). With it stand the conditions it
needs: entries stand as their tours have them, and no rack has more than 8 bins (R57, R64, R135). -/
def Obligations.LiveOrdersStayAccounted : Prop :=
  ∀ s t : State, s.ordersAccounted → s.entriesSound → s.racksSized → s.slotsWithinRacks → s.quietOutsideRun →
    step s = .next t → t.ordersAccounted ∧ t.entriesSound ∧ t.racksSized

/-- Every step keeps the commission record and the mode in step, and leaves the boards empty and the records free outside RUN
(R55, R132, R164). -/
def Obligations.ModesStaySound : Prop :=
  ∀ s t : State, s.commissionSound → s.quietOutsideRun → step s = .next t → t.commissionSound ∧ t.quietOutsideRun

/-- Every step keeps a route's RUNNING tour and its train ON_TOUR together (R110). -/
def Obligations.ToursKeepTrains : Prop := ∀ s t : State, s.toursHaveTrains → step s = .next t → t.toursHaveTrains
end

