-- ==== Sys2Proof/Laws/State.lean ====
section
/-! SUPPORT. What each update of the state leaves of each field: one lemma per field per update, true by definition. -/

namespace Sys2Proof.Machine

/-! ## modSlot -/

@[simp] theorem State.modSlot_forwardQueue (s : State) (i : Nat) (f : Slot → Slot) : (s.modSlot i f).forwardQueue = s.forwardQueue := rfl
@[simp] theorem State.modSlot_emitQueue (s : State) (i : Nat) (f : Slot → Slot) : (s.modSlot i f).emitQueue = s.emitQueue := rfl
@[simp] theorem State.modSlot_ringOut (s : State) (i : Nat) (f : Slot → Slot) : (s.modSlot i f).ringOut = s.ringOut := rfl
@[simp] theorem State.modSlot_burst (s : State) (i : Nat) (f : Slot → Slot) : (s.modSlot i f).burst = s.burst := rfl
@[simp] theorem State.modSlot_formerStation (s : State) (i : Nat) (f : Slot → Slot) : (s.modSlot i f).formerStation = s.formerStation := rfl
@[simp] theorem State.modSlot_echo (s : State) (i : Nat) (f : Slot → Slot) : (s.modSlot i f).echo = s.echo := rfl
@[simp] theorem State.modSlot_reported (s : State) (i : Nat) (f : Slot → Slot) : (s.modSlot i f).reported = s.reported := rfl
@[simp] theorem State.modSlot_backlog (s : State) (i : Nat) (f : Slot → Slot) : (s.modSlot i f).backlog = s.backlog := rfl
@[simp] theorem State.modSlot_nextOrderId (s : State) (i : Nat) (f : Slot → Slot) : (s.modSlot i f).nextOrderId = s.nextOrderId := rfl
@[simp] theorem State.modSlot_creationCount (s : State) (i : Nat) (f : Slot → Slot) : (s.modSlot i f).creationCount = s.creationCount := rfl
@[simp] theorem State.modSlot_routes (s : State) (i : Nat) (f : Slot → Slot) : (s.modSlot i f).routes = s.routes := rfl
@[simp] theorem State.modSlot_trains (s : State) (i : Nat) (f : Slot → Slot) : (s.modSlot i f).trains = s.trains := rfl
@[simp] theorem State.modSlot_records (s : State) (i : Nat) (f : Slot → Slot) : (s.modSlot i f).records = s.records := rfl
@[simp] theorem State.modSlot_lineConfig (s : State) (i : Nat) (f : Slot → Slot) : (s.modSlot i f).lineConfig = s.lineConfig := rfl
@[simp] theorem State.modSlot_lineState (s : State) (i : Nat) (f : Slot → Slot) : (s.modSlot i f).lineState = s.lineState := rfl
@[simp] theorem State.modSlot_takt (s : State) (i : Nat) (f : Slot → Slot) : (s.modSlot i f).takt = s.takt := rfl
@[simp] theorem State.modSlot_taktReported (s : State) (i : Nat) (f : Slot → Slot) : (s.modSlot i f).taktReported = s.taktReported := rfl
@[simp] theorem State.modSlot_mode (s : State) (i : Nat) (f : Slot → Slot) : (s.modSlot i f).mode = s.mode := rfl
@[simp] theorem State.modSlot_serial (s : State) (i : Nat) (f : Slot → Slot) : (s.modSlot i f).serial = s.serial := rfl
@[simp] theorem State.modSlot_station (s : State) (i : Nat) (f : Slot → Slot) : (s.modSlot i f).station = s.station := rfl
@[simp] theorem State.modSlot_server (s : State) (i : Nat) (f : Slot → Slot) : (s.modSlot i f).server = s.server := rfl
@[simp] theorem State.modSlot_pt (s : State) (i : Nat) (f : Slot → Slot) : (s.modSlot i f).pt = s.pt := rfl
@[simp] theorem State.modSlot_timeUnset (s : State) (i : Nat) (f : Slot → Slot) : (s.modSlot i f).timeUnset = s.timeUnset := rfl
@[simp] theorem State.modSlot_flags (s : State) (i : Nat) (f : Slot → Slot) : (s.modSlot i f).flags = s.flags := rfl
@[simp] theorem State.modSlot_mask (s : State) (i : Nat) (f : Slot → Slot) : (s.modSlot i f).mask = s.mask := rfl
@[simp] theorem State.modSlot_cause (s : State) (i : Nat) (f : Slot → Slot) : (s.modSlot i f).cause = s.cause := rfl
@[simp] theorem State.modSlot_storeInterrupted (s : State) (i : Nat) (f : Slot → Slot) : (s.modSlot i f).storeInterrupted = s.storeInterrupted := rfl
@[simp] theorem State.modSlot_store (s : State) (i : Nat) (f : Slot → Slot) : (s.modSlot i f).store = s.store := rfl
@[simp] theorem State.modSlot_storeOp (s : State) (i : Nat) (f : Slot → Slot) : (s.modSlot i f).storeOp = s.storeOp := rfl
@[simp] theorem State.modSlot_resetLow (s : State) (i : Nat) (f : Slot → Slot) : (s.modSlot i f).resetLow = s.resetLow := rfl
@[simp] theorem State.modSlot_draws (s : State) (i : Nat) (f : Slot → Slot) : (s.modSlot i f).draws = s.draws := rfl
@[simp] theorem State.modSlot_pending (s : State) (i : Nat) (f : Slot → Slot) : (s.modSlot i f).pending = s.pending := rfl

/-! ## modRoute -/

@[simp] theorem State.modRoute_forwardQueue (s : State) (r : Nat) (f : Route → Route) : (s.modRoute r f).forwardQueue = s.forwardQueue := rfl
@[simp] theorem State.modRoute_emitQueue (s : State) (r : Nat) (f : Route → Route) : (s.modRoute r f).emitQueue = s.emitQueue := rfl
@[simp] theorem State.modRoute_ringOut (s : State) (r : Nat) (f : Route → Route) : (s.modRoute r f).ringOut = s.ringOut := rfl
@[simp] theorem State.modRoute_burst (s : State) (r : Nat) (f : Route → Route) : (s.modRoute r f).burst = s.burst := rfl
@[simp] theorem State.modRoute_formerStation (s : State) (r : Nat) (f : Route → Route) : (s.modRoute r f).formerStation = s.formerStation := rfl
@[simp] theorem State.modRoute_slots (s : State) (r : Nat) (f : Route → Route) : (s.modRoute r f).slots = s.slots := rfl
@[simp] theorem State.modRoute_echo (s : State) (r : Nat) (f : Route → Route) : (s.modRoute r f).echo = s.echo := rfl
@[simp] theorem State.modRoute_reported (s : State) (r : Nat) (f : Route → Route) : (s.modRoute r f).reported = s.reported := rfl
@[simp] theorem State.modRoute_backlog (s : State) (r : Nat) (f : Route → Route) : (s.modRoute r f).backlog = s.backlog := rfl
@[simp] theorem State.modRoute_nextOrderId (s : State) (r : Nat) (f : Route → Route) : (s.modRoute r f).nextOrderId = s.nextOrderId := rfl
@[simp] theorem State.modRoute_creationCount (s : State) (r : Nat) (f : Route → Route) : (s.modRoute r f).creationCount = s.creationCount := rfl
@[simp] theorem State.modRoute_trains (s : State) (r : Nat) (f : Route → Route) : (s.modRoute r f).trains = s.trains := rfl
@[simp] theorem State.modRoute_records (s : State) (r : Nat) (f : Route → Route) : (s.modRoute r f).records = s.records := rfl
@[simp] theorem State.modRoute_lineConfig (s : State) (r : Nat) (f : Route → Route) : (s.modRoute r f).lineConfig = s.lineConfig := rfl
@[simp] theorem State.modRoute_lineState (s : State) (r : Nat) (f : Route → Route) : (s.modRoute r f).lineState = s.lineState := rfl
@[simp] theorem State.modRoute_takt (s : State) (r : Nat) (f : Route → Route) : (s.modRoute r f).takt = s.takt := rfl
@[simp] theorem State.modRoute_taktReported (s : State) (r : Nat) (f : Route → Route) : (s.modRoute r f).taktReported = s.taktReported := rfl
@[simp] theorem State.modRoute_mode (s : State) (r : Nat) (f : Route → Route) : (s.modRoute r f).mode = s.mode := rfl
@[simp] theorem State.modRoute_serial (s : State) (r : Nat) (f : Route → Route) : (s.modRoute r f).serial = s.serial := rfl
@[simp] theorem State.modRoute_station (s : State) (r : Nat) (f : Route → Route) : (s.modRoute r f).station = s.station := rfl
@[simp] theorem State.modRoute_server (s : State) (r : Nat) (f : Route → Route) : (s.modRoute r f).server = s.server := rfl
@[simp] theorem State.modRoute_pt (s : State) (r : Nat) (f : Route → Route) : (s.modRoute r f).pt = s.pt := rfl
@[simp] theorem State.modRoute_timeUnset (s : State) (r : Nat) (f : Route → Route) : (s.modRoute r f).timeUnset = s.timeUnset := rfl
@[simp] theorem State.modRoute_flags (s : State) (r : Nat) (f : Route → Route) : (s.modRoute r f).flags = s.flags := rfl
@[simp] theorem State.modRoute_mask (s : State) (r : Nat) (f : Route → Route) : (s.modRoute r f).mask = s.mask := rfl
@[simp] theorem State.modRoute_cause (s : State) (r : Nat) (f : Route → Route) : (s.modRoute r f).cause = s.cause := rfl
@[simp] theorem State.modRoute_storeInterrupted (s : State) (r : Nat) (f : Route → Route) : (s.modRoute r f).storeInterrupted = s.storeInterrupted := rfl
@[simp] theorem State.modRoute_store (s : State) (r : Nat) (f : Route → Route) : (s.modRoute r f).store = s.store := rfl
@[simp] theorem State.modRoute_storeOp (s : State) (r : Nat) (f : Route → Route) : (s.modRoute r f).storeOp = s.storeOp := rfl
@[simp] theorem State.modRoute_resetLow (s : State) (r : Nat) (f : Route → Route) : (s.modRoute r f).resetLow = s.resetLow := rfl
@[simp] theorem State.modRoute_draws (s : State) (r : Nat) (f : Route → Route) : (s.modRoute r f).draws = s.draws := rfl
@[simp] theorem State.modRoute_pending (s : State) (r : Nat) (f : Route → Route) : (s.modRoute r f).pending = s.pending := rfl

/-! ## modTrain -/

@[simp] theorem State.modTrain_forwardQueue (s : State) (r : Nat) (f : TrainUnit → TrainUnit) : (s.modTrain r f).forwardQueue = s.forwardQueue := rfl
@[simp] theorem State.modTrain_emitQueue (s : State) (r : Nat) (f : TrainUnit → TrainUnit) : (s.modTrain r f).emitQueue = s.emitQueue := rfl
@[simp] theorem State.modTrain_ringOut (s : State) (r : Nat) (f : TrainUnit → TrainUnit) : (s.modTrain r f).ringOut = s.ringOut := rfl
@[simp] theorem State.modTrain_burst (s : State) (r : Nat) (f : TrainUnit → TrainUnit) : (s.modTrain r f).burst = s.burst := rfl
@[simp] theorem State.modTrain_formerStation (s : State) (r : Nat) (f : TrainUnit → TrainUnit) : (s.modTrain r f).formerStation = s.formerStation := rfl
@[simp] theorem State.modTrain_slots (s : State) (r : Nat) (f : TrainUnit → TrainUnit) : (s.modTrain r f).slots = s.slots := rfl
@[simp] theorem State.modTrain_echo (s : State) (r : Nat) (f : TrainUnit → TrainUnit) : (s.modTrain r f).echo = s.echo := rfl
@[simp] theorem State.modTrain_reported (s : State) (r : Nat) (f : TrainUnit → TrainUnit) : (s.modTrain r f).reported = s.reported := rfl
@[simp] theorem State.modTrain_backlog (s : State) (r : Nat) (f : TrainUnit → TrainUnit) : (s.modTrain r f).backlog = s.backlog := rfl
@[simp] theorem State.modTrain_nextOrderId (s : State) (r : Nat) (f : TrainUnit → TrainUnit) : (s.modTrain r f).nextOrderId = s.nextOrderId := rfl
@[simp] theorem State.modTrain_creationCount (s : State) (r : Nat) (f : TrainUnit → TrainUnit) : (s.modTrain r f).creationCount = s.creationCount := rfl
@[simp] theorem State.modTrain_routes (s : State) (r : Nat) (f : TrainUnit → TrainUnit) : (s.modTrain r f).routes = s.routes := rfl
@[simp] theorem State.modTrain_records (s : State) (r : Nat) (f : TrainUnit → TrainUnit) : (s.modTrain r f).records = s.records := rfl
@[simp] theorem State.modTrain_lineConfig (s : State) (r : Nat) (f : TrainUnit → TrainUnit) : (s.modTrain r f).lineConfig = s.lineConfig := rfl
@[simp] theorem State.modTrain_lineState (s : State) (r : Nat) (f : TrainUnit → TrainUnit) : (s.modTrain r f).lineState = s.lineState := rfl
@[simp] theorem State.modTrain_takt (s : State) (r : Nat) (f : TrainUnit → TrainUnit) : (s.modTrain r f).takt = s.takt := rfl
@[simp] theorem State.modTrain_taktReported (s : State) (r : Nat) (f : TrainUnit → TrainUnit) : (s.modTrain r f).taktReported = s.taktReported := rfl
@[simp] theorem State.modTrain_mode (s : State) (r : Nat) (f : TrainUnit → TrainUnit) : (s.modTrain r f).mode = s.mode := rfl
@[simp] theorem State.modTrain_serial (s : State) (r : Nat) (f : TrainUnit → TrainUnit) : (s.modTrain r f).serial = s.serial := rfl
@[simp] theorem State.modTrain_station (s : State) (r : Nat) (f : TrainUnit → TrainUnit) : (s.modTrain r f).station = s.station := rfl
@[simp] theorem State.modTrain_server (s : State) (r : Nat) (f : TrainUnit → TrainUnit) : (s.modTrain r f).server = s.server := rfl
@[simp] theorem State.modTrain_pt (s : State) (r : Nat) (f : TrainUnit → TrainUnit) : (s.modTrain r f).pt = s.pt := rfl
@[simp] theorem State.modTrain_timeUnset (s : State) (r : Nat) (f : TrainUnit → TrainUnit) : (s.modTrain r f).timeUnset = s.timeUnset := rfl
@[simp] theorem State.modTrain_flags (s : State) (r : Nat) (f : TrainUnit → TrainUnit) : (s.modTrain r f).flags = s.flags := rfl
@[simp] theorem State.modTrain_mask (s : State) (r : Nat) (f : TrainUnit → TrainUnit) : (s.modTrain r f).mask = s.mask := rfl
@[simp] theorem State.modTrain_cause (s : State) (r : Nat) (f : TrainUnit → TrainUnit) : (s.modTrain r f).cause = s.cause := rfl
@[simp] theorem State.modTrain_storeInterrupted (s : State) (r : Nat) (f : TrainUnit → TrainUnit) : (s.modTrain r f).storeInterrupted = s.storeInterrupted := rfl
@[simp] theorem State.modTrain_store (s : State) (r : Nat) (f : TrainUnit → TrainUnit) : (s.modTrain r f).store = s.store := rfl
@[simp] theorem State.modTrain_storeOp (s : State) (r : Nat) (f : TrainUnit → TrainUnit) : (s.modTrain r f).storeOp = s.storeOp := rfl
@[simp] theorem State.modTrain_resetLow (s : State) (r : Nat) (f : TrainUnit → TrainUnit) : (s.modTrain r f).resetLow = s.resetLow := rfl
@[simp] theorem State.modTrain_draws (s : State) (r : Nat) (f : TrainUnit → TrainUnit) : (s.modTrain r f).draws = s.draws := rfl
@[simp] theorem State.modTrain_pending (s : State) (r : Nat) (f : TrainUnit → TrainUnit) : (s.modTrain r f).pending = s.pending := rfl

/-! ## setRecord -/

@[simp] theorem State.setRecord_forwardQueue (s : State) (k : Nat) (x : Option Record) : (s.setRecord k x).forwardQueue = s.forwardQueue := rfl
@[simp] theorem State.setRecord_emitQueue (s : State) (k : Nat) (x : Option Record) : (s.setRecord k x).emitQueue = s.emitQueue := rfl
@[simp] theorem State.setRecord_ringOut (s : State) (k : Nat) (x : Option Record) : (s.setRecord k x).ringOut = s.ringOut := rfl
@[simp] theorem State.setRecord_burst (s : State) (k : Nat) (x : Option Record) : (s.setRecord k x).burst = s.burst := rfl
@[simp] theorem State.setRecord_formerStation (s : State) (k : Nat) (x : Option Record) : (s.setRecord k x).formerStation = s.formerStation := rfl
@[simp] theorem State.setRecord_slots (s : State) (k : Nat) (x : Option Record) : (s.setRecord k x).slots = s.slots := rfl
@[simp] theorem State.setRecord_echo (s : State) (k : Nat) (x : Option Record) : (s.setRecord k x).echo = s.echo := rfl
@[simp] theorem State.setRecord_reported (s : State) (k : Nat) (x : Option Record) : (s.setRecord k x).reported = s.reported := rfl
@[simp] theorem State.setRecord_backlog (s : State) (k : Nat) (x : Option Record) : (s.setRecord k x).backlog = s.backlog := rfl
@[simp] theorem State.setRecord_nextOrderId (s : State) (k : Nat) (x : Option Record) : (s.setRecord k x).nextOrderId = s.nextOrderId := rfl
@[simp] theorem State.setRecord_creationCount (s : State) (k : Nat) (x : Option Record) : (s.setRecord k x).creationCount = s.creationCount := rfl
@[simp] theorem State.setRecord_routes (s : State) (k : Nat) (x : Option Record) : (s.setRecord k x).routes = s.routes := rfl
@[simp] theorem State.setRecord_trains (s : State) (k : Nat) (x : Option Record) : (s.setRecord k x).trains = s.trains := rfl
@[simp] theorem State.setRecord_lineConfig (s : State) (k : Nat) (x : Option Record) : (s.setRecord k x).lineConfig = s.lineConfig := rfl
@[simp] theorem State.setRecord_lineState (s : State) (k : Nat) (x : Option Record) : (s.setRecord k x).lineState = s.lineState := rfl
@[simp] theorem State.setRecord_takt (s : State) (k : Nat) (x : Option Record) : (s.setRecord k x).takt = s.takt := rfl
@[simp] theorem State.setRecord_taktReported (s : State) (k : Nat) (x : Option Record) : (s.setRecord k x).taktReported = s.taktReported := rfl
@[simp] theorem State.setRecord_mode (s : State) (k : Nat) (x : Option Record) : (s.setRecord k x).mode = s.mode := rfl
@[simp] theorem State.setRecord_serial (s : State) (k : Nat) (x : Option Record) : (s.setRecord k x).serial = s.serial := rfl
@[simp] theorem State.setRecord_station (s : State) (k : Nat) (x : Option Record) : (s.setRecord k x).station = s.station := rfl
@[simp] theorem State.setRecord_server (s : State) (k : Nat) (x : Option Record) : (s.setRecord k x).server = s.server := rfl
@[simp] theorem State.setRecord_pt (s : State) (k : Nat) (x : Option Record) : (s.setRecord k x).pt = s.pt := rfl
@[simp] theorem State.setRecord_timeUnset (s : State) (k : Nat) (x : Option Record) : (s.setRecord k x).timeUnset = s.timeUnset := rfl
@[simp] theorem State.setRecord_flags (s : State) (k : Nat) (x : Option Record) : (s.setRecord k x).flags = s.flags := rfl
@[simp] theorem State.setRecord_mask (s : State) (k : Nat) (x : Option Record) : (s.setRecord k x).mask = s.mask := rfl
@[simp] theorem State.setRecord_cause (s : State) (k : Nat) (x : Option Record) : (s.setRecord k x).cause = s.cause := rfl
@[simp] theorem State.setRecord_storeInterrupted (s : State) (k : Nat) (x : Option Record) : (s.setRecord k x).storeInterrupted = s.storeInterrupted := rfl
@[simp] theorem State.setRecord_store (s : State) (k : Nat) (x : Option Record) : (s.setRecord k x).store = s.store := rfl
@[simp] theorem State.setRecord_storeOp (s : State) (k : Nat) (x : Option Record) : (s.setRecord k x).storeOp = s.storeOp := rfl
@[simp] theorem State.setRecord_resetLow (s : State) (k : Nat) (x : Option Record) : (s.setRecord k x).resetLow = s.resetLow := rfl
@[simp] theorem State.setRecord_draws (s : State) (k : Nat) (x : Option Record) : (s.setRecord k x).draws = s.draws := rfl
@[simp] theorem State.setRecord_pending (s : State) (k : Nat) (x : Option Record) : (s.setRecord k x).pending = s.pending := rfl

/-! ## report -/

@[simp] theorem State.report_forwardQueue (s : State) (i : Nat) : (s.report i).forwardQueue = s.forwardQueue := rfl
@[simp] theorem State.report_emitQueue (s : State) (i : Nat) : (s.report i).emitQueue = s.emitQueue := rfl
@[simp] theorem State.report_ringOut (s : State) (i : Nat) : (s.report i).ringOut = s.ringOut := rfl
@[simp] theorem State.report_burst (s : State) (i : Nat) : (s.report i).burst = s.burst := rfl
@[simp] theorem State.report_formerStation (s : State) (i : Nat) : (s.report i).formerStation = s.formerStation := rfl
@[simp] theorem State.report_slots (s : State) (i : Nat) : (s.report i).slots = s.slots := rfl
@[simp] theorem State.report_echo (s : State) (i : Nat) : (s.report i).echo = s.echo := rfl
@[simp] theorem State.report_backlog (s : State) (i : Nat) : (s.report i).backlog = s.backlog := rfl
@[simp] theorem State.report_nextOrderId (s : State) (i : Nat) : (s.report i).nextOrderId = s.nextOrderId := rfl
@[simp] theorem State.report_creationCount (s : State) (i : Nat) : (s.report i).creationCount = s.creationCount := rfl
@[simp] theorem State.report_routes (s : State) (i : Nat) : (s.report i).routes = s.routes := rfl
@[simp] theorem State.report_trains (s : State) (i : Nat) : (s.report i).trains = s.trains := rfl
@[simp] theorem State.report_records (s : State) (i : Nat) : (s.report i).records = s.records := rfl
@[simp] theorem State.report_lineConfig (s : State) (i : Nat) : (s.report i).lineConfig = s.lineConfig := rfl
@[simp] theorem State.report_lineState (s : State) (i : Nat) : (s.report i).lineState = s.lineState := rfl
@[simp] theorem State.report_takt (s : State) (i : Nat) : (s.report i).takt = s.takt := rfl
@[simp] theorem State.report_taktReported (s : State) (i : Nat) : (s.report i).taktReported = s.taktReported := rfl
@[simp] theorem State.report_mode (s : State) (i : Nat) : (s.report i).mode = s.mode := rfl
@[simp] theorem State.report_serial (s : State) (i : Nat) : (s.report i).serial = s.serial := rfl
@[simp] theorem State.report_station (s : State) (i : Nat) : (s.report i).station = s.station := rfl
@[simp] theorem State.report_server (s : State) (i : Nat) : (s.report i).server = s.server := rfl
@[simp] theorem State.report_pt (s : State) (i : Nat) : (s.report i).pt = s.pt := rfl
@[simp] theorem State.report_timeUnset (s : State) (i : Nat) : (s.report i).timeUnset = s.timeUnset := rfl
@[simp] theorem State.report_flags (s : State) (i : Nat) : (s.report i).flags = s.flags := rfl
@[simp] theorem State.report_mask (s : State) (i : Nat) : (s.report i).mask = s.mask := rfl
@[simp] theorem State.report_cause (s : State) (i : Nat) : (s.report i).cause = s.cause := rfl
@[simp] theorem State.report_storeInterrupted (s : State) (i : Nat) : (s.report i).storeInterrupted = s.storeInterrupted := rfl
@[simp] theorem State.report_store (s : State) (i : Nat) : (s.report i).store = s.store := rfl
@[simp] theorem State.report_storeOp (s : State) (i : Nat) : (s.report i).storeOp = s.storeOp := rfl
@[simp] theorem State.report_resetLow (s : State) (i : Nat) : (s.report i).resetLow = s.resetLow := rfl
@[simp] theorem State.report_draws (s : State) (i : Nat) : (s.report i).draws = s.draws := rfl
@[simp] theorem State.report_pending (s : State) (i : Nat) : (s.report i).pending = s.pending := rfl

/-! ## reportAll -/

@[simp] theorem State.reportAll_forwardQueue (s : State) (l : List Nat) : (s.reportAll l).forwardQueue = s.forwardQueue := rfl
@[simp] theorem State.reportAll_emitQueue (s : State) (l : List Nat) : (s.reportAll l).emitQueue = s.emitQueue := rfl
@[simp] theorem State.reportAll_ringOut (s : State) (l : List Nat) : (s.reportAll l).ringOut = s.ringOut := rfl
@[simp] theorem State.reportAll_burst (s : State) (l : List Nat) : (s.reportAll l).burst = s.burst := rfl
@[simp] theorem State.reportAll_formerStation (s : State) (l : List Nat) : (s.reportAll l).formerStation = s.formerStation := rfl
@[simp] theorem State.reportAll_slots (s : State) (l : List Nat) : (s.reportAll l).slots = s.slots := rfl
@[simp] theorem State.reportAll_echo (s : State) (l : List Nat) : (s.reportAll l).echo = s.echo := rfl
@[simp] theorem State.reportAll_backlog (s : State) (l : List Nat) : (s.reportAll l).backlog = s.backlog := rfl
@[simp] theorem State.reportAll_nextOrderId (s : State) (l : List Nat) : (s.reportAll l).nextOrderId = s.nextOrderId := rfl
@[simp] theorem State.reportAll_creationCount (s : State) (l : List Nat) : (s.reportAll l).creationCount = s.creationCount := rfl
@[simp] theorem State.reportAll_routes (s : State) (l : List Nat) : (s.reportAll l).routes = s.routes := rfl
@[simp] theorem State.reportAll_trains (s : State) (l : List Nat) : (s.reportAll l).trains = s.trains := rfl
@[simp] theorem State.reportAll_records (s : State) (l : List Nat) : (s.reportAll l).records = s.records := rfl
@[simp] theorem State.reportAll_lineConfig (s : State) (l : List Nat) : (s.reportAll l).lineConfig = s.lineConfig := rfl
@[simp] theorem State.reportAll_lineState (s : State) (l : List Nat) : (s.reportAll l).lineState = s.lineState := rfl
@[simp] theorem State.reportAll_takt (s : State) (l : List Nat) : (s.reportAll l).takt = s.takt := rfl
@[simp] theorem State.reportAll_taktReported (s : State) (l : List Nat) : (s.reportAll l).taktReported = s.taktReported := rfl
@[simp] theorem State.reportAll_mode (s : State) (l : List Nat) : (s.reportAll l).mode = s.mode := rfl
@[simp] theorem State.reportAll_serial (s : State) (l : List Nat) : (s.reportAll l).serial = s.serial := rfl
@[simp] theorem State.reportAll_station (s : State) (l : List Nat) : (s.reportAll l).station = s.station := rfl
@[simp] theorem State.reportAll_server (s : State) (l : List Nat) : (s.reportAll l).server = s.server := rfl
@[simp] theorem State.reportAll_pt (s : State) (l : List Nat) : (s.reportAll l).pt = s.pt := rfl
@[simp] theorem State.reportAll_timeUnset (s : State) (l : List Nat) : (s.reportAll l).timeUnset = s.timeUnset := rfl
@[simp] theorem State.reportAll_flags (s : State) (l : List Nat) : (s.reportAll l).flags = s.flags := rfl
@[simp] theorem State.reportAll_mask (s : State) (l : List Nat) : (s.reportAll l).mask = s.mask := rfl
@[simp] theorem State.reportAll_cause (s : State) (l : List Nat) : (s.reportAll l).cause = s.cause := rfl
@[simp] theorem State.reportAll_storeInterrupted (s : State) (l : List Nat) : (s.reportAll l).storeInterrupted = s.storeInterrupted := rfl
@[simp] theorem State.reportAll_store (s : State) (l : List Nat) : (s.reportAll l).store = s.store := rfl
@[simp] theorem State.reportAll_storeOp (s : State) (l : List Nat) : (s.reportAll l).storeOp = s.storeOp := rfl
@[simp] theorem State.reportAll_resetLow (s : State) (l : List Nat) : (s.reportAll l).resetLow = s.resetLow := rfl
@[simp] theorem State.reportAll_draws (s : State) (l : List Nat) : (s.reportAll l).draws = s.draws := rfl
@[simp] theorem State.reportAll_pending (s : State) (l : List Nat) : (s.reportAll l).pending = s.pending := rfl

/-! ## setFlag -/

@[simp] theorem State.setFlag_forwardQueue (s : State) (a : Alert) : (s.setFlag a).forwardQueue = s.forwardQueue := rfl
@[simp] theorem State.setFlag_emitQueue (s : State) (a : Alert) : (s.setFlag a).emitQueue = s.emitQueue := rfl
@[simp] theorem State.setFlag_ringOut (s : State) (a : Alert) : (s.setFlag a).ringOut = s.ringOut := rfl
@[simp] theorem State.setFlag_burst (s : State) (a : Alert) : (s.setFlag a).burst = s.burst := rfl
@[simp] theorem State.setFlag_formerStation (s : State) (a : Alert) : (s.setFlag a).formerStation = s.formerStation := rfl
@[simp] theorem State.setFlag_slots (s : State) (a : Alert) : (s.setFlag a).slots = s.slots := rfl
@[simp] theorem State.setFlag_echo (s : State) (a : Alert) : (s.setFlag a).echo = s.echo := rfl
@[simp] theorem State.setFlag_reported (s : State) (a : Alert) : (s.setFlag a).reported = s.reported := rfl
@[simp] theorem State.setFlag_backlog (s : State) (a : Alert) : (s.setFlag a).backlog = s.backlog := rfl
@[simp] theorem State.setFlag_nextOrderId (s : State) (a : Alert) : (s.setFlag a).nextOrderId = s.nextOrderId := rfl
@[simp] theorem State.setFlag_creationCount (s : State) (a : Alert) : (s.setFlag a).creationCount = s.creationCount := rfl
@[simp] theorem State.setFlag_routes (s : State) (a : Alert) : (s.setFlag a).routes = s.routes := rfl
@[simp] theorem State.setFlag_trains (s : State) (a : Alert) : (s.setFlag a).trains = s.trains := rfl
@[simp] theorem State.setFlag_records (s : State) (a : Alert) : (s.setFlag a).records = s.records := rfl
@[simp] theorem State.setFlag_lineConfig (s : State) (a : Alert) : (s.setFlag a).lineConfig = s.lineConfig := rfl
@[simp] theorem State.setFlag_lineState (s : State) (a : Alert) : (s.setFlag a).lineState = s.lineState := rfl
@[simp] theorem State.setFlag_takt (s : State) (a : Alert) : (s.setFlag a).takt = s.takt := rfl
@[simp] theorem State.setFlag_taktReported (s : State) (a : Alert) : (s.setFlag a).taktReported = s.taktReported := rfl
@[simp] theorem State.setFlag_mode (s : State) (a : Alert) : (s.setFlag a).mode = s.mode := rfl
@[simp] theorem State.setFlag_serial (s : State) (a : Alert) : (s.setFlag a).serial = s.serial := rfl
@[simp] theorem State.setFlag_station (s : State) (a : Alert) : (s.setFlag a).station = s.station := rfl
@[simp] theorem State.setFlag_server (s : State) (a : Alert) : (s.setFlag a).server = s.server := rfl
@[simp] theorem State.setFlag_pt (s : State) (a : Alert) : (s.setFlag a).pt = s.pt := rfl
@[simp] theorem State.setFlag_timeUnset (s : State) (a : Alert) : (s.setFlag a).timeUnset = s.timeUnset := rfl
@[simp] theorem State.setFlag_mask (s : State) (a : Alert) : (s.setFlag a).mask = s.mask := rfl
@[simp] theorem State.setFlag_cause (s : State) (a : Alert) : (s.setFlag a).cause = s.cause := rfl
@[simp] theorem State.setFlag_storeInterrupted (s : State) (a : Alert) : (s.setFlag a).storeInterrupted = s.storeInterrupted := rfl
@[simp] theorem State.setFlag_store (s : State) (a : Alert) : (s.setFlag a).store = s.store := rfl
@[simp] theorem State.setFlag_storeOp (s : State) (a : Alert) : (s.setFlag a).storeOp = s.storeOp := rfl
@[simp] theorem State.setFlag_resetLow (s : State) (a : Alert) : (s.setFlag a).resetLow = s.resetLow := rfl
@[simp] theorem State.setFlag_draws (s : State) (a : Alert) : (s.setFlag a).draws = s.draws := rfl
@[simp] theorem State.setFlag_pending (s : State) (a : Alert) : (s.setFlag a).pending = s.pending := rfl

/-! ## insertBacklog -/

@[simp] theorem State.insertBacklog_forwardQueue (s : State) (o : Order) : (s.insertBacklog o).forwardQueue = s.forwardQueue := rfl
@[simp] theorem State.insertBacklog_emitQueue (s : State) (o : Order) : (s.insertBacklog o).emitQueue = s.emitQueue := rfl
@[simp] theorem State.insertBacklog_ringOut (s : State) (o : Order) : (s.insertBacklog o).ringOut = s.ringOut := rfl
@[simp] theorem State.insertBacklog_burst (s : State) (o : Order) : (s.insertBacklog o).burst = s.burst := rfl
@[simp] theorem State.insertBacklog_formerStation (s : State) (o : Order) : (s.insertBacklog o).formerStation = s.formerStation := rfl
@[simp] theorem State.insertBacklog_slots (s : State) (o : Order) : (s.insertBacklog o).slots = s.slots := rfl
@[simp] theorem State.insertBacklog_echo (s : State) (o : Order) : (s.insertBacklog o).echo = s.echo := rfl
@[simp] theorem State.insertBacklog_reported (s : State) (o : Order) : (s.insertBacklog o).reported = s.reported := rfl
@[simp] theorem State.insertBacklog_nextOrderId (s : State) (o : Order) : (s.insertBacklog o).nextOrderId = s.nextOrderId := rfl
@[simp] theorem State.insertBacklog_creationCount (s : State) (o : Order) : (s.insertBacklog o).creationCount = s.creationCount := rfl
@[simp] theorem State.insertBacklog_routes (s : State) (o : Order) : (s.insertBacklog o).routes = s.routes := rfl
@[simp] theorem State.insertBacklog_trains (s : State) (o : Order) : (s.insertBacklog o).trains = s.trains := rfl
@[simp] theorem State.insertBacklog_records (s : State) (o : Order) : (s.insertBacklog o).records = s.records := rfl
@[simp] theorem State.insertBacklog_lineConfig (s : State) (o : Order) : (s.insertBacklog o).lineConfig = s.lineConfig := rfl
@[simp] theorem State.insertBacklog_lineState (s : State) (o : Order) : (s.insertBacklog o).lineState = s.lineState := rfl
@[simp] theorem State.insertBacklog_takt (s : State) (o : Order) : (s.insertBacklog o).takt = s.takt := rfl
@[simp] theorem State.insertBacklog_taktReported (s : State) (o : Order) : (s.insertBacklog o).taktReported = s.taktReported := rfl
@[simp] theorem State.insertBacklog_mode (s : State) (o : Order) : (s.insertBacklog o).mode = s.mode := rfl
@[simp] theorem State.insertBacklog_serial (s : State) (o : Order) : (s.insertBacklog o).serial = s.serial := rfl
@[simp] theorem State.insertBacklog_station (s : State) (o : Order) : (s.insertBacklog o).station = s.station := rfl
@[simp] theorem State.insertBacklog_server (s : State) (o : Order) : (s.insertBacklog o).server = s.server := rfl
@[simp] theorem State.insertBacklog_pt (s : State) (o : Order) : (s.insertBacklog o).pt = s.pt := rfl
@[simp] theorem State.insertBacklog_timeUnset (s : State) (o : Order) : (s.insertBacklog o).timeUnset = s.timeUnset := rfl
@[simp] theorem State.insertBacklog_flags (s : State) (o : Order) : (s.insertBacklog o).flags = s.flags := rfl
@[simp] theorem State.insertBacklog_mask (s : State) (o : Order) : (s.insertBacklog o).mask = s.mask := rfl
@[simp] theorem State.insertBacklog_cause (s : State) (o : Order) : (s.insertBacklog o).cause = s.cause := rfl
@[simp] theorem State.insertBacklog_storeInterrupted (s : State) (o : Order) : (s.insertBacklog o).storeInterrupted = s.storeInterrupted := rfl
@[simp] theorem State.insertBacklog_store (s : State) (o : Order) : (s.insertBacklog o).store = s.store := rfl
@[simp] theorem State.insertBacklog_storeOp (s : State) (o : Order) : (s.insertBacklog o).storeOp = s.storeOp := rfl
@[simp] theorem State.insertBacklog_resetLow (s : State) (o : Order) : (s.insertBacklog o).resetLow = s.resetLow := rfl
@[simp] theorem State.insertBacklog_draws (s : State) (o : Order) : (s.insertBacklog o).draws = s.draws := rfl
@[simp] theorem State.insertBacklog_pending (s : State) (o : Order) : (s.insertBacklog o).pending = s.pending := rfl

/-! ## modHead -/

@[simp] theorem State.modHead_forwardQueue (s : State) (r : Nat) (f : Tour → Tour) : (s.modHead r f).forwardQueue = s.forwardQueue := rfl
@[simp] theorem State.modHead_emitQueue (s : State) (r : Nat) (f : Tour → Tour) : (s.modHead r f).emitQueue = s.emitQueue := rfl
@[simp] theorem State.modHead_ringOut (s : State) (r : Nat) (f : Tour → Tour) : (s.modHead r f).ringOut = s.ringOut := rfl
@[simp] theorem State.modHead_burst (s : State) (r : Nat) (f : Tour → Tour) : (s.modHead r f).burst = s.burst := rfl
@[simp] theorem State.modHead_formerStation (s : State) (r : Nat) (f : Tour → Tour) : (s.modHead r f).formerStation = s.formerStation := rfl
@[simp] theorem State.modHead_slots (s : State) (r : Nat) (f : Tour → Tour) : (s.modHead r f).slots = s.slots := rfl
@[simp] theorem State.modHead_echo (s : State) (r : Nat) (f : Tour → Tour) : (s.modHead r f).echo = s.echo := rfl
@[simp] theorem State.modHead_reported (s : State) (r : Nat) (f : Tour → Tour) : (s.modHead r f).reported = s.reported := rfl
@[simp] theorem State.modHead_backlog (s : State) (r : Nat) (f : Tour → Tour) : (s.modHead r f).backlog = s.backlog := rfl
@[simp] theorem State.modHead_nextOrderId (s : State) (r : Nat) (f : Tour → Tour) : (s.modHead r f).nextOrderId = s.nextOrderId := rfl
@[simp] theorem State.modHead_creationCount (s : State) (r : Nat) (f : Tour → Tour) : (s.modHead r f).creationCount = s.creationCount := rfl
@[simp] theorem State.modHead_trains (s : State) (r : Nat) (f : Tour → Tour) : (s.modHead r f).trains = s.trains := rfl
@[simp] theorem State.modHead_records (s : State) (r : Nat) (f : Tour → Tour) : (s.modHead r f).records = s.records := rfl
@[simp] theorem State.modHead_lineConfig (s : State) (r : Nat) (f : Tour → Tour) : (s.modHead r f).lineConfig = s.lineConfig := rfl
@[simp] theorem State.modHead_lineState (s : State) (r : Nat) (f : Tour → Tour) : (s.modHead r f).lineState = s.lineState := rfl
@[simp] theorem State.modHead_takt (s : State) (r : Nat) (f : Tour → Tour) : (s.modHead r f).takt = s.takt := rfl
@[simp] theorem State.modHead_taktReported (s : State) (r : Nat) (f : Tour → Tour) : (s.modHead r f).taktReported = s.taktReported := rfl
@[simp] theorem State.modHead_mode (s : State) (r : Nat) (f : Tour → Tour) : (s.modHead r f).mode = s.mode := rfl
@[simp] theorem State.modHead_serial (s : State) (r : Nat) (f : Tour → Tour) : (s.modHead r f).serial = s.serial := rfl
@[simp] theorem State.modHead_station (s : State) (r : Nat) (f : Tour → Tour) : (s.modHead r f).station = s.station := rfl
@[simp] theorem State.modHead_server (s : State) (r : Nat) (f : Tour → Tour) : (s.modHead r f).server = s.server := rfl
@[simp] theorem State.modHead_pt (s : State) (r : Nat) (f : Tour → Tour) : (s.modHead r f).pt = s.pt := rfl
@[simp] theorem State.modHead_timeUnset (s : State) (r : Nat) (f : Tour → Tour) : (s.modHead r f).timeUnset = s.timeUnset := rfl
@[simp] theorem State.modHead_flags (s : State) (r : Nat) (f : Tour → Tour) : (s.modHead r f).flags = s.flags := rfl
@[simp] theorem State.modHead_mask (s : State) (r : Nat) (f : Tour → Tour) : (s.modHead r f).mask = s.mask := rfl
@[simp] theorem State.modHead_cause (s : State) (r : Nat) (f : Tour → Tour) : (s.modHead r f).cause = s.cause := rfl
@[simp] theorem State.modHead_storeInterrupted (s : State) (r : Nat) (f : Tour → Tour) : (s.modHead r f).storeInterrupted = s.storeInterrupted := rfl
@[simp] theorem State.modHead_store (s : State) (r : Nat) (f : Tour → Tour) : (s.modHead r f).store = s.store := rfl
@[simp] theorem State.modHead_storeOp (s : State) (r : Nat) (f : Tour → Tour) : (s.modHead r f).storeOp = s.storeOp := rfl
@[simp] theorem State.modHead_resetLow (s : State) (r : Nat) (f : Tour → Tour) : (s.modHead r f).resetLow = s.resetLow := rfl
@[simp] theorem State.modHead_draws (s : State) (r : Nat) (f : Tour → Tour) : (s.modHead r f).draws = s.draws := rfl
@[simp] theorem State.modHead_pending (s : State) (r : Nat) (f : Tour → Tour) : (s.modHead r f).pending = s.pending := rfl

/-! ## modRunning -/

@[simp] theorem State.modRunning_forwardQueue (s : State) (r : Nat) (f : Tour → Tour) : (s.modRunning r f).forwardQueue = s.forwardQueue := rfl
@[simp] theorem State.modRunning_emitQueue (s : State) (r : Nat) (f : Tour → Tour) : (s.modRunning r f).emitQueue = s.emitQueue := rfl
@[simp] theorem State.modRunning_ringOut (s : State) (r : Nat) (f : Tour → Tour) : (s.modRunning r f).ringOut = s.ringOut := rfl
@[simp] theorem State.modRunning_burst (s : State) (r : Nat) (f : Tour → Tour) : (s.modRunning r f).burst = s.burst := rfl
@[simp] theorem State.modRunning_formerStation (s : State) (r : Nat) (f : Tour → Tour) : (s.modRunning r f).formerStation = s.formerStation := rfl
@[simp] theorem State.modRunning_slots (s : State) (r : Nat) (f : Tour → Tour) : (s.modRunning r f).slots = s.slots := rfl
@[simp] theorem State.modRunning_echo (s : State) (r : Nat) (f : Tour → Tour) : (s.modRunning r f).echo = s.echo := rfl
@[simp] theorem State.modRunning_reported (s : State) (r : Nat) (f : Tour → Tour) : (s.modRunning r f).reported = s.reported := rfl
@[simp] theorem State.modRunning_backlog (s : State) (r : Nat) (f : Tour → Tour) : (s.modRunning r f).backlog = s.backlog := rfl
@[simp] theorem State.modRunning_nextOrderId (s : State) (r : Nat) (f : Tour → Tour) : (s.modRunning r f).nextOrderId = s.nextOrderId := rfl
@[simp] theorem State.modRunning_creationCount (s : State) (r : Nat) (f : Tour → Tour) : (s.modRunning r f).creationCount = s.creationCount := rfl
@[simp] theorem State.modRunning_trains (s : State) (r : Nat) (f : Tour → Tour) : (s.modRunning r f).trains = s.trains := rfl
@[simp] theorem State.modRunning_records (s : State) (r : Nat) (f : Tour → Tour) : (s.modRunning r f).records = s.records := rfl
@[simp] theorem State.modRunning_lineConfig (s : State) (r : Nat) (f : Tour → Tour) : (s.modRunning r f).lineConfig = s.lineConfig := rfl
@[simp] theorem State.modRunning_lineState (s : State) (r : Nat) (f : Tour → Tour) : (s.modRunning r f).lineState = s.lineState := rfl
@[simp] theorem State.modRunning_takt (s : State) (r : Nat) (f : Tour → Tour) : (s.modRunning r f).takt = s.takt := rfl
@[simp] theorem State.modRunning_taktReported (s : State) (r : Nat) (f : Tour → Tour) : (s.modRunning r f).taktReported = s.taktReported := rfl
@[simp] theorem State.modRunning_mode (s : State) (r : Nat) (f : Tour → Tour) : (s.modRunning r f).mode = s.mode := rfl
@[simp] theorem State.modRunning_serial (s : State) (r : Nat) (f : Tour → Tour) : (s.modRunning r f).serial = s.serial := rfl
@[simp] theorem State.modRunning_station (s : State) (r : Nat) (f : Tour → Tour) : (s.modRunning r f).station = s.station := rfl
@[simp] theorem State.modRunning_server (s : State) (r : Nat) (f : Tour → Tour) : (s.modRunning r f).server = s.server := rfl
@[simp] theorem State.modRunning_pt (s : State) (r : Nat) (f : Tour → Tour) : (s.modRunning r f).pt = s.pt := rfl
@[simp] theorem State.modRunning_timeUnset (s : State) (r : Nat) (f : Tour → Tour) : (s.modRunning r f).timeUnset = s.timeUnset := rfl
@[simp] theorem State.modRunning_flags (s : State) (r : Nat) (f : Tour → Tour) : (s.modRunning r f).flags = s.flags := rfl
@[simp] theorem State.modRunning_mask (s : State) (r : Nat) (f : Tour → Tour) : (s.modRunning r f).mask = s.mask := rfl
@[simp] theorem State.modRunning_cause (s : State) (r : Nat) (f : Tour → Tour) : (s.modRunning r f).cause = s.cause := rfl
@[simp] theorem State.modRunning_storeInterrupted (s : State) (r : Nat) (f : Tour → Tour) : (s.modRunning r f).storeInterrupted = s.storeInterrupted := rfl
@[simp] theorem State.modRunning_store (s : State) (r : Nat) (f : Tour → Tour) : (s.modRunning r f).store = s.store := rfl
@[simp] theorem State.modRunning_storeOp (s : State) (r : Nat) (f : Tour → Tour) : (s.modRunning r f).storeOp = s.storeOp := rfl
@[simp] theorem State.modRunning_resetLow (s : State) (r : Nat) (f : Tour → Tour) : (s.modRunning r f).resetLow = s.resetLow := rfl
@[simp] theorem State.modRunning_draws (s : State) (r : Nat) (f : Tour → Tour) : (s.modRunning r f).draws = s.draws := rfl
@[simp] theorem State.modRunning_pending (s : State) (r : Nat) (f : Tour → Tour) : (s.modRunning r f).pending = s.pending := rfl

/-! ## What the updates write -/

@[simp] theorem State.report_reported (s : State) (i : Nat) : (s.report i).reported = s.reported ++ [i] := rfl
@[simp] theorem State.reportAll_reported (s : State) (l : List Nat) : (s.reportAll l).reported = s.reported ++ l := rfl
@[simp] theorem State.setFlag_flags (s : State) (a : Alert) : (s.setFlag a).flags = s.flags ||| (1#16 <<< a.bit) := rfl
@[simp] theorem State.insertBacklog_backlog (s : State) (o : Order) :
    (s.insertBacklog o).backlog = insertOrdered Order.before o s.backlog := rfl

end Sys2Proof.Machine
end

