-- ==== Sys2Proof/Laws/Tables.lean ====
section
/-! SUPPORT. Reading a table after one of its members is changed: the member named is changed, every other stands. -/

namespace Sys2Proof.Machine

/-! ## Members of a table -/

/-- A member of a table whose member i is changed. -/
theorem getD_modifyAt {α : Type} {n : Nat} (v : Vector α n) (i j : Nat) (f : α → α) (d : α) :
    (modifyAt v i f).getD j d = if j = i ∧ i < n then f (v.getD i d) else v.getD j d := by
  unfold modifyAt
  by_cases hi : i < n
  · by_cases hji : j = i
    · subst hji
      simp [hi, Vector.getD]
    · by_cases hj : j < n
      · simp [hi, hj, hji, Vector.getD, Ne.symm hji]
      · simp [hi, hj, hji, Vector.getD]
  · simp [hi]

/-- A member of a table made from another by a function. -/
theorem getD_mapTable {α β : Type} {n : Nat} (f : α → β) (v : Vector α n) (j : Nat) (d : α) (e : β) :
    (mapTable f v).getD j e = if j < n then f (v.getD j d) else e := by
  unfold mapTable
  by_cases hj : j < n
  · simp [hj, Vector.getD]
  · simp [hj, Vector.getD]

/-- A member of a table made from indexes. -/
theorem getD_tabulate {α : Type} (n : Nat) (f : Nat → α) (j : Nat) (d : α) :
    (tabulate n f).getD j d = if j < n then f j else d := by
  unfold tabulate
  by_cases hj : j < n
  · simp [hj, Vector.getD]
  · simp [hj, Vector.getD]

/-! ## Slots, routes, trains and records -/

/-- A slot after one slot is changed. -/
theorem State.slot_modSlot (s : State) (i j : Nat) (f : Slot → Slot) :
    (s.modSlot i f).slot j = if j = i ∧ i < 512 then f (s.slot i) else s.slot j :=
  getD_modifyAt s.slots i j f _

/-- A route after one route is changed. -/
theorem State.route_modRoute (s : State) (i j : Nat) (f : Route → Route) :
    (s.modRoute i f).route j = if j = i ∧ i < 8 then f (s.route i) else s.route j :=
  getD_modifyAt s.routes i j f _

/-- What TU holds for a route after one is changed. -/
theorem State.train_modTrain (s : State) (i j : Nat) (f : TrainUnit → TrainUnit) :
    (s.modTrain i f).train j = if j = i ∧ i < 8 then f (s.train i) else s.train j :=
  getD_modifyAt s.trains i j f _

/-- A record after one is written. -/
theorem State.record_setRecord (s : State) (i j : Nat) (x : Option Record) :
    (s.setRecord i x).record j = if j = i ∧ i < 4 then x else s.record j :=
  getD_modifyAt s.records i j (fun _ => x) none

/-! ## What a table's change leaves -/

@[simp] theorem State.slot_modRoute (s : State) (r i : Nat) (f : Route → Route) : (s.modRoute r f).slot i = s.slot i := rfl
@[simp] theorem State.slot_modTrain (s : State) (r i : Nat) (f : TrainUnit → TrainUnit) :
    (s.modTrain r f).slot i = s.slot i := rfl
@[simp] theorem State.slot_report (s : State) (j i : Nat) : (s.report j).slot i = s.slot i := rfl
@[simp] theorem State.route_modSlot (s : State) (r i : Nat) (f : Slot → Slot) : (s.modSlot i f).route r = s.route r := rfl
@[simp] theorem State.route_modTrain (s : State) (r q : Nat) (f : TrainUnit → TrainUnit) :
    (s.modTrain q f).route r = s.route r := rfl
@[simp] theorem State.route_report (s : State) (j r : Nat) : (s.report j).route r = s.route r := rfl
@[simp] theorem State.train_modSlot (s : State) (r i : Nat) (f : Slot → Slot) : (s.modSlot i f).train r = s.train r := rfl
@[simp] theorem State.train_modRoute (s : State) (r q : Nat) (f : Route → Route) :
    (s.modRoute q f).train r = s.train r := rfl
@[simp] theorem State.train_report (s : State) (j r : Nat) : (s.report j).train r = s.train r := rfl

end Sys2Proof.Machine
end

