-- ==== Sys2Proof/Laws/Link.lean ====
section
/-! SUPPORT. What the Link Unit's operations can do: the arbiter, emission, forwarding and the raising of an alert change LU's
own fields and the alert flags, and nothing else. -/

namespace Sys2Proof.Machine

/-! ## One equation per operation -/

/-- The arbiter changes the two queues, ring-out and its count alone. -/
theorem State.arbitrate_eq (s : State) :
    s.arbitrate = { s with forwardQueue := s.arbitrate.forwardQueue, emitQueue := s.arbitrate.emitQueue,
                           ringOut := s.arbitrate.ringOut, burst := s.arbitrate.burst } := by
  unfold State.arbitrate
  split <;> first | rfl | (split <;> rfl)

/-- A join changes what the arbiter changes. -/
theorem State.kick_eq (s : State) :
    s.kick = { s with forwardQueue := s.kick.forwardQueue, emitQueue := s.kick.emitQueue,
                      ringOut := s.kick.ringOut, burst := s.kick.burst } := by
  unfold State.kick
  split
  · exact s.arbitrate_eq
  · rfl

/-- Emission changes LU's queues, ring-out, the count and, for EMIT_OVERRUN, the flags (R157). -/
theorem State.emit_eq (s : State) (cls dst : Nat) (p : List Byte) :
    s.emit cls dst p = { s with forwardQueue := (s.emit cls dst p).forwardQueue,
                                emitQueue := (s.emit cls dst p).emitQueue, ringOut := (s.emit cls dst p).ringOut,
                                burst := (s.emit cls dst p).burst, flags := (s.emit cls dst p).flags } := by
  unfold State.emit
  split
  · rw [State.kick_eq]
  · rfl

/-- Raising an alert changes the flags and what its ALERT telegram changes (R168). -/
theorem State.raise_eq (s : State) (a : Alert) :
    s.raise a = { s with forwardQueue := (s.raise a).forwardQueue, emitQueue := (s.raise a).emitQueue,
                         ringOut := (s.raise a).ringOut, burst := (s.raise a).burst, flags := (s.raise a).flags } := by
  unfold State.raise
  split
  · rfl
  · dsimp only
    split
    · rw [State.emit_eq]; rfl
    · rfl

/-- Forwarding changes LU's queues, ring-out, the count and, for RING_OVERRUN, what its alert changes (R157). -/
theorem State.forward_eq (s : State) (f : Frame) :
    s.forward f = { s with forwardQueue := (s.forward f).forwardQueue, emitQueue := (s.forward f).emitQueue,
                           ringOut := (s.forward f).ringOut, burst := (s.forward f).burst,
                           flags := (s.forward f).flags } := by
  unfold State.forward
  split
  · rw [State.kick_eq]
  · exact s.raise_eq .ringOverrun

/-! ## arbitrate, field by field -/

@[simp] theorem State.arbitrate_formerStation (s : State) : s.arbitrate.formerStation = s.formerStation := by rw [State.arbitrate_eq]
@[simp] theorem State.arbitrate_slots (s : State) : s.arbitrate.slots = s.slots := by rw [State.arbitrate_eq]
@[simp] theorem State.arbitrate_echo (s : State) : s.arbitrate.echo = s.echo := by rw [State.arbitrate_eq]
@[simp] theorem State.arbitrate_reported (s : State) : s.arbitrate.reported = s.reported := by rw [State.arbitrate_eq]
@[simp] theorem State.arbitrate_backlog (s : State) : s.arbitrate.backlog = s.backlog := by rw [State.arbitrate_eq]
@[simp] theorem State.arbitrate_nextOrderId (s : State) : s.arbitrate.nextOrderId = s.nextOrderId := by rw [State.arbitrate_eq]
@[simp] theorem State.arbitrate_creationCount (s : State) : s.arbitrate.creationCount = s.creationCount := by rw [State.arbitrate_eq]
@[simp] theorem State.arbitrate_routes (s : State) : s.arbitrate.routes = s.routes := by rw [State.arbitrate_eq]
@[simp] theorem State.arbitrate_trains (s : State) : s.arbitrate.trains = s.trains := by rw [State.arbitrate_eq]
@[simp] theorem State.arbitrate_records (s : State) : s.arbitrate.records = s.records := by rw [State.arbitrate_eq]
@[simp] theorem State.arbitrate_lineConfig (s : State) : s.arbitrate.lineConfig = s.lineConfig := by rw [State.arbitrate_eq]
@[simp] theorem State.arbitrate_lineState (s : State) : s.arbitrate.lineState = s.lineState := by rw [State.arbitrate_eq]
@[simp] theorem State.arbitrate_takt (s : State) : s.arbitrate.takt = s.takt := by rw [State.arbitrate_eq]
@[simp] theorem State.arbitrate_taktReported (s : State) : s.arbitrate.taktReported = s.taktReported := by rw [State.arbitrate_eq]
@[simp] theorem State.arbitrate_mode (s : State) : s.arbitrate.mode = s.mode := by rw [State.arbitrate_eq]
@[simp] theorem State.arbitrate_serial (s : State) : s.arbitrate.serial = s.serial := by rw [State.arbitrate_eq]
@[simp] theorem State.arbitrate_station (s : State) : s.arbitrate.station = s.station := by rw [State.arbitrate_eq]
@[simp] theorem State.arbitrate_server (s : State) : s.arbitrate.server = s.server := by rw [State.arbitrate_eq]
@[simp] theorem State.arbitrate_pt (s : State) : s.arbitrate.pt = s.pt := by rw [State.arbitrate_eq]
@[simp] theorem State.arbitrate_timeUnset (s : State) : s.arbitrate.timeUnset = s.timeUnset := by rw [State.arbitrate_eq]
@[simp] theorem State.arbitrate_flags (s : State) : s.arbitrate.flags = s.flags := by rw [State.arbitrate_eq]
@[simp] theorem State.arbitrate_mask (s : State) : s.arbitrate.mask = s.mask := by rw [State.arbitrate_eq]
@[simp] theorem State.arbitrate_cause (s : State) : s.arbitrate.cause = s.cause := by rw [State.arbitrate_eq]
@[simp] theorem State.arbitrate_storeInterrupted (s : State) : s.arbitrate.storeInterrupted = s.storeInterrupted := by rw [State.arbitrate_eq]
@[simp] theorem State.arbitrate_store (s : State) : s.arbitrate.store = s.store := by rw [State.arbitrate_eq]
@[simp] theorem State.arbitrate_storeOp (s : State) : s.arbitrate.storeOp = s.storeOp := by rw [State.arbitrate_eq]
@[simp] theorem State.arbitrate_resetLow (s : State) : s.arbitrate.resetLow = s.resetLow := by rw [State.arbitrate_eq]
@[simp] theorem State.arbitrate_draws (s : State) : s.arbitrate.draws = s.draws := by rw [State.arbitrate_eq]
@[simp] theorem State.arbitrate_pending (s : State) : s.arbitrate.pending = s.pending := by rw [State.arbitrate_eq]

/-! ## kick, field by field -/

@[simp] theorem State.kick_formerStation (s : State) : s.kick.formerStation = s.formerStation := by rw [State.kick_eq]
@[simp] theorem State.kick_slots (s : State) : s.kick.slots = s.slots := by rw [State.kick_eq]
@[simp] theorem State.kick_echo (s : State) : s.kick.echo = s.echo := by rw [State.kick_eq]
@[simp] theorem State.kick_reported (s : State) : s.kick.reported = s.reported := by rw [State.kick_eq]
@[simp] theorem State.kick_backlog (s : State) : s.kick.backlog = s.backlog := by rw [State.kick_eq]
@[simp] theorem State.kick_nextOrderId (s : State) : s.kick.nextOrderId = s.nextOrderId := by rw [State.kick_eq]
@[simp] theorem State.kick_creationCount (s : State) : s.kick.creationCount = s.creationCount := by rw [State.kick_eq]
@[simp] theorem State.kick_routes (s : State) : s.kick.routes = s.routes := by rw [State.kick_eq]
@[simp] theorem State.kick_trains (s : State) : s.kick.trains = s.trains := by rw [State.kick_eq]
@[simp] theorem State.kick_records (s : State) : s.kick.records = s.records := by rw [State.kick_eq]
@[simp] theorem State.kick_lineConfig (s : State) : s.kick.lineConfig = s.lineConfig := by rw [State.kick_eq]
@[simp] theorem State.kick_lineState (s : State) : s.kick.lineState = s.lineState := by rw [State.kick_eq]
@[simp] theorem State.kick_takt (s : State) : s.kick.takt = s.takt := by rw [State.kick_eq]
@[simp] theorem State.kick_taktReported (s : State) : s.kick.taktReported = s.taktReported := by rw [State.kick_eq]
@[simp] theorem State.kick_mode (s : State) : s.kick.mode = s.mode := by rw [State.kick_eq]
@[simp] theorem State.kick_serial (s : State) : s.kick.serial = s.serial := by rw [State.kick_eq]
@[simp] theorem State.kick_station (s : State) : s.kick.station = s.station := by rw [State.kick_eq]
@[simp] theorem State.kick_server (s : State) : s.kick.server = s.server := by rw [State.kick_eq]
@[simp] theorem State.kick_pt (s : State) : s.kick.pt = s.pt := by rw [State.kick_eq]
@[simp] theorem State.kick_timeUnset (s : State) : s.kick.timeUnset = s.timeUnset := by rw [State.kick_eq]
@[simp] theorem State.kick_flags (s : State) : s.kick.flags = s.flags := by rw [State.kick_eq]
@[simp] theorem State.kick_mask (s : State) : s.kick.mask = s.mask := by rw [State.kick_eq]
@[simp] theorem State.kick_cause (s : State) : s.kick.cause = s.cause := by rw [State.kick_eq]
@[simp] theorem State.kick_storeInterrupted (s : State) : s.kick.storeInterrupted = s.storeInterrupted := by rw [State.kick_eq]
@[simp] theorem State.kick_store (s : State) : s.kick.store = s.store := by rw [State.kick_eq]
@[simp] theorem State.kick_storeOp (s : State) : s.kick.storeOp = s.storeOp := by rw [State.kick_eq]
@[simp] theorem State.kick_resetLow (s : State) : s.kick.resetLow = s.resetLow := by rw [State.kick_eq]
@[simp] theorem State.kick_draws (s : State) : s.kick.draws = s.draws := by rw [State.kick_eq]
@[simp] theorem State.kick_pending (s : State) : s.kick.pending = s.pending := by rw [State.kick_eq]

/-! ## emit, field by field -/

@[simp] theorem State.emit_formerStation (s : State) (cls dst : Nat) (p : List Byte) : (s.emit cls dst p).formerStation = s.formerStation := by rw [State.emit_eq]
@[simp] theorem State.emit_slots (s : State) (cls dst : Nat) (p : List Byte) : (s.emit cls dst p).slots = s.slots := by rw [State.emit_eq]
@[simp] theorem State.emit_echo (s : State) (cls dst : Nat) (p : List Byte) : (s.emit cls dst p).echo = s.echo := by rw [State.emit_eq]
@[simp] theorem State.emit_reported (s : State) (cls dst : Nat) (p : List Byte) : (s.emit cls dst p).reported = s.reported := by rw [State.emit_eq]
@[simp] theorem State.emit_backlog (s : State) (cls dst : Nat) (p : List Byte) : (s.emit cls dst p).backlog = s.backlog := by rw [State.emit_eq]
@[simp] theorem State.emit_nextOrderId (s : State) (cls dst : Nat) (p : List Byte) : (s.emit cls dst p).nextOrderId = s.nextOrderId := by rw [State.emit_eq]
@[simp] theorem State.emit_creationCount (s : State) (cls dst : Nat) (p : List Byte) : (s.emit cls dst p).creationCount = s.creationCount := by rw [State.emit_eq]
@[simp] theorem State.emit_routes (s : State) (cls dst : Nat) (p : List Byte) : (s.emit cls dst p).routes = s.routes := by rw [State.emit_eq]
@[simp] theorem State.emit_trains (s : State) (cls dst : Nat) (p : List Byte) : (s.emit cls dst p).trains = s.trains := by rw [State.emit_eq]
@[simp] theorem State.emit_records (s : State) (cls dst : Nat) (p : List Byte) : (s.emit cls dst p).records = s.records := by rw [State.emit_eq]
@[simp] theorem State.emit_lineConfig (s : State) (cls dst : Nat) (p : List Byte) : (s.emit cls dst p).lineConfig = s.lineConfig := by rw [State.emit_eq]
@[simp] theorem State.emit_lineState (s : State) (cls dst : Nat) (p : List Byte) : (s.emit cls dst p).lineState = s.lineState := by rw [State.emit_eq]
@[simp] theorem State.emit_takt (s : State) (cls dst : Nat) (p : List Byte) : (s.emit cls dst p).takt = s.takt := by rw [State.emit_eq]
@[simp] theorem State.emit_taktReported (s : State) (cls dst : Nat) (p : List Byte) : (s.emit cls dst p).taktReported = s.taktReported := by rw [State.emit_eq]
@[simp] theorem State.emit_mode (s : State) (cls dst : Nat) (p : List Byte) : (s.emit cls dst p).mode = s.mode := by rw [State.emit_eq]
@[simp] theorem State.emit_serial (s : State) (cls dst : Nat) (p : List Byte) : (s.emit cls dst p).serial = s.serial := by rw [State.emit_eq]
@[simp] theorem State.emit_station (s : State) (cls dst : Nat) (p : List Byte) : (s.emit cls dst p).station = s.station := by rw [State.emit_eq]
@[simp] theorem State.emit_server (s : State) (cls dst : Nat) (p : List Byte) : (s.emit cls dst p).server = s.server := by rw [State.emit_eq]
@[simp] theorem State.emit_pt (s : State) (cls dst : Nat) (p : List Byte) : (s.emit cls dst p).pt = s.pt := by rw [State.emit_eq]
@[simp] theorem State.emit_timeUnset (s : State) (cls dst : Nat) (p : List Byte) : (s.emit cls dst p).timeUnset = s.timeUnset := by rw [State.emit_eq]
@[simp] theorem State.emit_mask (s : State) (cls dst : Nat) (p : List Byte) : (s.emit cls dst p).mask = s.mask := by rw [State.emit_eq]
@[simp] theorem State.emit_cause (s : State) (cls dst : Nat) (p : List Byte) : (s.emit cls dst p).cause = s.cause := by rw [State.emit_eq]
@[simp] theorem State.emit_storeInterrupted (s : State) (cls dst : Nat) (p : List Byte) : (s.emit cls dst p).storeInterrupted = s.storeInterrupted := by rw [State.emit_eq]
@[simp] theorem State.emit_store (s : State) (cls dst : Nat) (p : List Byte) : (s.emit cls dst p).store = s.store := by rw [State.emit_eq]
@[simp] theorem State.emit_storeOp (s : State) (cls dst : Nat) (p : List Byte) : (s.emit cls dst p).storeOp = s.storeOp := by rw [State.emit_eq]
@[simp] theorem State.emit_resetLow (s : State) (cls dst : Nat) (p : List Byte) : (s.emit cls dst p).resetLow = s.resetLow := by rw [State.emit_eq]
@[simp] theorem State.emit_draws (s : State) (cls dst : Nat) (p : List Byte) : (s.emit cls dst p).draws = s.draws := by rw [State.emit_eq]
@[simp] theorem State.emit_pending (s : State) (cls dst : Nat) (p : List Byte) : (s.emit cls dst p).pending = s.pending := by rw [State.emit_eq]

/-! ## raise, field by field -/

@[simp] theorem State.raise_formerStation (s : State) (a : Alert) : (s.raise a).formerStation = s.formerStation := by rw [State.raise_eq]
@[simp] theorem State.raise_slots (s : State) (a : Alert) : (s.raise a).slots = s.slots := by rw [State.raise_eq]
@[simp] theorem State.raise_echo (s : State) (a : Alert) : (s.raise a).echo = s.echo := by rw [State.raise_eq]
@[simp] theorem State.raise_reported (s : State) (a : Alert) : (s.raise a).reported = s.reported := by rw [State.raise_eq]
@[simp] theorem State.raise_backlog (s : State) (a : Alert) : (s.raise a).backlog = s.backlog := by rw [State.raise_eq]
@[simp] theorem State.raise_nextOrderId (s : State) (a : Alert) : (s.raise a).nextOrderId = s.nextOrderId := by rw [State.raise_eq]
@[simp] theorem State.raise_creationCount (s : State) (a : Alert) : (s.raise a).creationCount = s.creationCount := by rw [State.raise_eq]
@[simp] theorem State.raise_routes (s : State) (a : Alert) : (s.raise a).routes = s.routes := by rw [State.raise_eq]
@[simp] theorem State.raise_trains (s : State) (a : Alert) : (s.raise a).trains = s.trains := by rw [State.raise_eq]
@[simp] theorem State.raise_records (s : State) (a : Alert) : (s.raise a).records = s.records := by rw [State.raise_eq]
@[simp] theorem State.raise_lineConfig (s : State) (a : Alert) : (s.raise a).lineConfig = s.lineConfig := by rw [State.raise_eq]
@[simp] theorem State.raise_lineState (s : State) (a : Alert) : (s.raise a).lineState = s.lineState := by rw [State.raise_eq]
@[simp] theorem State.raise_takt (s : State) (a : Alert) : (s.raise a).takt = s.takt := by rw [State.raise_eq]
@[simp] theorem State.raise_taktReported (s : State) (a : Alert) : (s.raise a).taktReported = s.taktReported := by rw [State.raise_eq]
@[simp] theorem State.raise_mode (s : State) (a : Alert) : (s.raise a).mode = s.mode := by rw [State.raise_eq]
@[simp] theorem State.raise_serial (s : State) (a : Alert) : (s.raise a).serial = s.serial := by rw [State.raise_eq]
@[simp] theorem State.raise_station (s : State) (a : Alert) : (s.raise a).station = s.station := by rw [State.raise_eq]
@[simp] theorem State.raise_server (s : State) (a : Alert) : (s.raise a).server = s.server := by rw [State.raise_eq]
@[simp] theorem State.raise_pt (s : State) (a : Alert) : (s.raise a).pt = s.pt := by rw [State.raise_eq]
@[simp] theorem State.raise_timeUnset (s : State) (a : Alert) : (s.raise a).timeUnset = s.timeUnset := by rw [State.raise_eq]
@[simp] theorem State.raise_mask (s : State) (a : Alert) : (s.raise a).mask = s.mask := by rw [State.raise_eq]
@[simp] theorem State.raise_cause (s : State) (a : Alert) : (s.raise a).cause = s.cause := by rw [State.raise_eq]
@[simp] theorem State.raise_storeInterrupted (s : State) (a : Alert) : (s.raise a).storeInterrupted = s.storeInterrupted := by rw [State.raise_eq]
@[simp] theorem State.raise_store (s : State) (a : Alert) : (s.raise a).store = s.store := by rw [State.raise_eq]
@[simp] theorem State.raise_storeOp (s : State) (a : Alert) : (s.raise a).storeOp = s.storeOp := by rw [State.raise_eq]
@[simp] theorem State.raise_resetLow (s : State) (a : Alert) : (s.raise a).resetLow = s.resetLow := by rw [State.raise_eq]
@[simp] theorem State.raise_draws (s : State) (a : Alert) : (s.raise a).draws = s.draws := by rw [State.raise_eq]
@[simp] theorem State.raise_pending (s : State) (a : Alert) : (s.raise a).pending = s.pending := by rw [State.raise_eq]

/-! ## forward, field by field -/

@[simp] theorem State.forward_formerStation (s : State) (f : Frame) : (s.forward f).formerStation = s.formerStation := by rw [State.forward_eq]
@[simp] theorem State.forward_slots (s : State) (f : Frame) : (s.forward f).slots = s.slots := by rw [State.forward_eq]
@[simp] theorem State.forward_echo (s : State) (f : Frame) : (s.forward f).echo = s.echo := by rw [State.forward_eq]
@[simp] theorem State.forward_reported (s : State) (f : Frame) : (s.forward f).reported = s.reported := by rw [State.forward_eq]
@[simp] theorem State.forward_backlog (s : State) (f : Frame) : (s.forward f).backlog = s.backlog := by rw [State.forward_eq]
@[simp] theorem State.forward_nextOrderId (s : State) (f : Frame) : (s.forward f).nextOrderId = s.nextOrderId := by rw [State.forward_eq]
@[simp] theorem State.forward_creationCount (s : State) (f : Frame) : (s.forward f).creationCount = s.creationCount := by rw [State.forward_eq]
@[simp] theorem State.forward_routes (s : State) (f : Frame) : (s.forward f).routes = s.routes := by rw [State.forward_eq]
@[simp] theorem State.forward_trains (s : State) (f : Frame) : (s.forward f).trains = s.trains := by rw [State.forward_eq]
@[simp] theorem State.forward_records (s : State) (f : Frame) : (s.forward f).records = s.records := by rw [State.forward_eq]
@[simp] theorem State.forward_lineConfig (s : State) (f : Frame) : (s.forward f).lineConfig = s.lineConfig := by rw [State.forward_eq]
@[simp] theorem State.forward_lineState (s : State) (f : Frame) : (s.forward f).lineState = s.lineState := by rw [State.forward_eq]
@[simp] theorem State.forward_takt (s : State) (f : Frame) : (s.forward f).takt = s.takt := by rw [State.forward_eq]
@[simp] theorem State.forward_taktReported (s : State) (f : Frame) : (s.forward f).taktReported = s.taktReported := by rw [State.forward_eq]
@[simp] theorem State.forward_mode (s : State) (f : Frame) : (s.forward f).mode = s.mode := by rw [State.forward_eq]
@[simp] theorem State.forward_serial (s : State) (f : Frame) : (s.forward f).serial = s.serial := by rw [State.forward_eq]
@[simp] theorem State.forward_station (s : State) (f : Frame) : (s.forward f).station = s.station := by rw [State.forward_eq]
@[simp] theorem State.forward_server (s : State) (f : Frame) : (s.forward f).server = s.server := by rw [State.forward_eq]
@[simp] theorem State.forward_pt (s : State) (f : Frame) : (s.forward f).pt = s.pt := by rw [State.forward_eq]
@[simp] theorem State.forward_timeUnset (s : State) (f : Frame) : (s.forward f).timeUnset = s.timeUnset := by rw [State.forward_eq]
@[simp] theorem State.forward_mask (s : State) (f : Frame) : (s.forward f).mask = s.mask := by rw [State.forward_eq]
@[simp] theorem State.forward_cause (s : State) (f : Frame) : (s.forward f).cause = s.cause := by rw [State.forward_eq]
@[simp] theorem State.forward_storeInterrupted (s : State) (f : Frame) : (s.forward f).storeInterrupted = s.storeInterrupted := by rw [State.forward_eq]
@[simp] theorem State.forward_store (s : State) (f : Frame) : (s.forward f).store = s.store := by rw [State.forward_eq]
@[simp] theorem State.forward_storeOp (s : State) (f : Frame) : (s.forward f).storeOp = s.storeOp := by rw [State.forward_eq]
@[simp] theorem State.forward_resetLow (s : State) (f : Frame) : (s.forward f).resetLow = s.resetLow := by rw [State.forward_eq]
@[simp] theorem State.forward_draws (s : State) (f : Frame) : (s.forward f).draws = s.draws := by rw [State.forward_eq]
@[simp] theorem State.forward_pending (s : State) (f : Frame) : (s.forward f).pending = s.pending := by rw [State.forward_eq]

end Sys2Proof.Machine
end

