-- ==== Sys2Proof/Laws/Ordered.lean ====
section
/-! SUPPORT. What insertion into an ordered list and sorting do: they keep the members, and the list stays in order. -/

namespace Sys2Proof.Machine

/-- Insertion adds one member and keeps the others (R81, R58). -/
theorem insertOrdered_perm {α : Type} (before : α → α → Bool) (x : α) (l : List α) :
    (insertOrdered before x l).Perm (x :: l) := by
  induction l with
  | nil => exact .refl _
  | cons y ys ih =>
    unfold insertOrdered
    split
    · exact .refl _
    · exact (ih.cons y).trans (.swap x y ys)

@[simp] theorem insertOrdered_length {α : Type} (before : α → α → Bool) (x : α) (l : List α) :
    (insertOrdered before x l).length = l.length + 1 := by
  simpa using (insertOrdered_perm before x l).length_eq

@[simp] theorem mem_insertOrdered {α : Type} (before : α → α → Bool) (x y : α) (l : List α) :
    y ∈ insertOrdered before x l ↔ y = x ∨ y ∈ l := by
  simpa using (insertOrdered_perm before x l).mem_iff (a := y)

/-- Insertion into a list in order leaves it in order: no later member precedes an earlier one. -/
theorem insertOrdered_pairwise {α : Type} {before : α → α → Bool} {x : α} {l : List α}
    (asym : ∀ a b, before a b = true → before b a = false)
    (trans : ∀ a b c, before a b = true → before c b = false → before c a = false)
    (h : l.Pairwise fun a b => before b a = false) :
    (insertOrdered before x l).Pairwise fun a b => before b a = false := by
  induction l with
  | nil => simp [insertOrdered]
  | cons y ys ih =>
    obtain ⟨hy, hys⟩ := List.pairwise_cons.mp h
    unfold insertOrdered
    split
    · rename_i hxy
      refine List.pairwise_cons.mpr ⟨fun b hb => ?_, h⟩
      rcases List.mem_cons.mp hb with rfl | hb
      · exact asym _ _ hxy
      · exact trans x y b hxy (hy b hb)
    · rename_i hxy
      refine List.pairwise_cons.mpr ⟨fun b hb => ?_, ih hys⟩
      rcases (mem_insertOrdered before x b ys).mp hb with rfl | hb
      · simpa using hxy
      · exact hy b hb

/-- Sorting keeps the members. -/
theorem sortOrdered_perm {α : Type} (before : α → α → Bool) (l : List α) : (sortOrdered before l).Perm l := by
  induction l with
  | nil => exact .refl _
  | cons x xs ih => exact (insertOrdered_perm before x _).trans (ih.cons x)

@[simp] theorem sortOrdered_length {α : Type} (before : α → α → Bool) (l : List α) :
    (sortOrdered before l).length = l.length := (sortOrdered_perm before l).length_eq

/-- Sorting leaves a list in order. -/
theorem sortOrdered_pairwise {α : Type} {before : α → α → Bool} (l : List α)
    (asym : ∀ a b, before a b = true → before b a = false)
    (trans : ∀ a b c, before a b = true → before c b = false → before c a = false) :
    (sortOrdered before l).Pairwise fun a b => before b a = false := by
  induction l with
  | nil => exact .nil
  | cons x xs ih => exact insertOrdered_pairwise asym trans ih

/-- The backlog's order as a statement on numbers (R81). -/
theorem Order.before_iff (a b : Order) :
    Order.before a b = true ↔
      a.due < b.due ∨ a.due = b.due ∧ (a.created < b.created ∨ a.created = b.created ∧ a.creation < b.creation) := by
  simp [Order.before]

/-- The backlog's order is asymmetric. -/
theorem Order.before_asymm (a b : Order) (h : Order.before a b = true) : Order.before b a = false := by
  rw [← Bool.not_eq_true, Order.before_iff]
  rw [Order.before_iff] at h
  omega

/-- What does not precede a later member does not precede an earlier one. -/
theorem Order.before_trans (a b c : Order) (h : Order.before a b = true) (h' : Order.before c b = false) :
    Order.before c a = false := by
  rw [← Bool.not_eq_true, Order.before_iff] at *
  omega

/-- An order that joins a backlog in its order leaves it in its order (R81). -/
theorem insertBacklog_pairwise {l : List Order} (o : Order) (h : l.Pairwise fun a b => Order.before b a = false) :
    (insertOrdered Order.before o l).Pairwise fun a b => Order.before b a = false :=
  insertOrdered_pairwise Order.before_asymm Order.before_trans h

/-- The order of R58 as a statement on numbers (R135). -/
theorem Pending.before_iff (a b : Pending) :
    Pending.before a b = true ↔
      a.stop < b.stop ∨ a.stop = b.stop ∧ (a.due < b.due ∨ a.due = b.due ∧
        (a.created < b.created ∨ a.created = b.created ∧ a.creation < b.creation)) := by
  simp [Pending.before]

/-- The order of pending entries is asymmetric. -/
theorem Pending.before_asymm (a b : Pending) (h : Pending.before a b = true) : Pending.before b a = false := by
  rw [← Bool.not_eq_true, Pending.before_iff]
  rw [Pending.before_iff] at h
  omega

/-- What does not precede a later pending entry does not precede an earlier one. -/
theorem Pending.before_trans (a b c : Pending) (h : Pending.before a b = true) (h' : Pending.before c b = false) :
    Pending.before c a = false := by
  rw [← Bool.not_eq_true, Pending.before_iff] at *
  omega

/-- The order of R58 as a statement on numbers. -/
theorem Entry.before_iff (a b : Entry) :
    Entry.before a b = true ↔
      a.stop < b.stop ∨ a.stop = b.stop ∧ (a.due < b.due ∨ a.due = b.due ∧
        (a.created < b.created ∨ a.created = b.created ∧ a.creation < b.creation)) := by
  simp [Entry.before]

/-- The order of a tour's entries is asymmetric. -/
theorem Entry.before_asymm (a b : Entry) (h : Entry.before a b = true) : Entry.before b a = false := by
  rw [← Bool.not_eq_true, Entry.before_iff]
  rw [Entry.before_iff] at h
  omega

/-- What does not precede a later entry does not precede an earlier one. -/
theorem Entry.before_trans (a b c : Entry) (h : Entry.before a b = true) (h' : Entry.before c b = false) :
    Entry.before c a = false := by
  rw [← Bool.not_eq_true, Entry.before_iff] at *
  omega

end Sys2Proof.Machine
end

