-- ==== Sys2Proof/Laws/Events.lean ====
section
/-! SUPPORT. What the operations of the blocks can do: for each, the fields it changes, all others as they were. -/

namespace Sys2Proof.Machine

/-! ## Slot Unit -/

/-- Keeping SHORT changes the slot table, and for SLOT_SHORT what an alert changes (R7). -/
theorem State.noteShort_eq (s : State) (i : Nat) :
    s.noteShort i = { s with
      slots := (s.noteShort i).slots, forwardQueue := (s.noteShort i).forwardQueue,
      emitQueue := (s.noteShort i).emitQueue, ringOut := (s.noteShort i).ringOut, burst := (s.noteShort i).burst,
      flags := (s.noteShort i).flags } := by
  unfold State.noteShort
  dsimp only
  split
  · rfl
  · split
    · split
      · rfl
      · rw [State.raise_eq]; rfl
    · rfl

/-- A change of counts changes the slot table, the reported slots and what SLOT_SHORT changes (R7, R19). -/
theorem State.countsChanged_eq (s : State) (i : Nat) :
    s.countsChanged i = { s with
      slots := (s.countsChanged i).slots, reported := s.reported ++ [i],
      forwardQueue := (s.countsChanged i).forwardQueue, emitQueue := (s.countsChanged i).emitQueue,
      ringOut := (s.countsChanged i).ringOut, burst := (s.countsChanged i).burst,
      flags := (s.countsChanged i).flags } := by
  unfold State.countsChanged State.report
  rw [State.noteShort_eq]
  rfl

/-- A credit changes what a change of counts changes (R17). -/
theorem State.credit_eq (s : State) (i : Nat) :
    s.credit i = { s with
      slots := (s.credit i).slots, reported := s.reported ++ [i], forwardQueue := (s.credit i).forwardQueue,
      emitQueue := (s.credit i).emitQueue, ringOut := (s.credit i).ringOut, burst := (s.credit i).burst,
      flags := (s.credit i).flags } := by
  unfold State.credit
  rw [State.countsChanged_eq]
  rfl

/-- A drop changes what a change of counts and ORDER_DROPPED change (R18). -/
theorem State.drop_eq (s : State) (i : Nat) :
    s.drop i = { s with
      slots := (s.drop i).slots, reported := s.reported ++ [i], forwardQueue := (s.drop i).forwardQueue,
      emitQueue := (s.drop i).emitQueue, ringOut := (s.drop i).ringOut, burst := (s.drop i).burst,
      flags := (s.drop i).flags } := by
  unfold State.drop
  rw [State.countsChanged_eq, State.raise_eq]
  rfl

/-- Credits to several slots change what one changes. -/
theorem State.credits_eq (es : List Entry) (s : State) :
    es.foldl (fun x e => x.credit e.slot) s = { s with
      slots := (es.foldl (fun x e => x.credit e.slot) s).slots, reported := s.reported ++ es.map Entry.slot,
      forwardQueue := (es.foldl (fun x e => x.credit e.slot) s).forwardQueue,
      emitQueue := (es.foldl (fun x e => x.credit e.slot) s).emitQueue,
      ringOut := (es.foldl (fun x e => x.credit e.slot) s).ringOut,
      burst := (es.foldl (fun x e => x.credit e.slot) s).burst,
      flags := (es.foldl (fun x e => x.credit e.slot) s).flags } := by
  induction es generalizing s with
  | nil => simp
  | cons e es ih =>
    simp only [List.foldl_cons, List.map_cons]
    rw [ih, State.credit_eq]
    simp

/-! ## Planner -/

/-- Placing an order changes the routes, the reported slots and what LATE_ORDER changes (R85). -/
theorem State.place_eq (s : State) (o : Order) (k : Nat) :
    s.place o k = { s with
      routes := (s.place o k).routes, reported := (s.place o k).reported, forwardQueue := (s.place o k).forwardQueue,
      emitQueue := (s.place o k).emitQueue, ringOut := (s.place o k).ringOut, burst := (s.place o k).burst,
      flags := (s.place o k).flags } := by
  unfold State.place
  dsimp only
  split
  · rfl
  · split
    · unfold State.report
      rw [State.raise_eq]; rfl
    · rfl

/-- Offering orders changes the backlog and what placing changes (R86). -/
theorem State.offerOrders_eq (rs : List Nat) (os : List Order) (s : State) :
    State.offerOrders rs os s = { s with
      backlog := (State.offerOrders rs os s).backlog, routes := (State.offerOrders rs os s).routes,
      reported := (State.offerOrders rs os s).reported, forwardQueue := (State.offerOrders rs os s).forwardQueue,
      emitQueue := (State.offerOrders rs os s).emitQueue, ringOut := (State.offerOrders rs os s).ringOut,
      burst := (State.offerOrders rs os s).burst, flags := (State.offerOrders rs os s).flags } := by
  induction os generalizing s with
  | nil => rfl
  | cons o os ih =>
    unfold State.offerOrders
    split
    · split
      · rw [ih, State.place_eq]
      · exact ih s
    · exact ih s

/-- A drain changes the backlog, the routes, the reported slots and what LATE_ORDER changes (R86). -/
theorem State.drain_eq (s : State) (rs : List Nat) :
    s.drain rs = { s with
      backlog := (s.drain rs).backlog, routes := (s.drain rs).routes, reported := (s.drain rs).reported,
      forwardQueue := (s.drain rs).forwardQueue, emitQueue := (s.drain rs).emitQueue, ringOut := (s.drain rs).ringOut,
      burst := (s.drain rs).burst, flags := (s.drain rs).flags } :=
  State.offerOrders_eq rs s.backlog s

/-- A drain takes orders out of the backlog and adds none (R86). -/
theorem State.offerOrders_sublist (rs : List Nat) (os : List Order) (s : State) :
    (State.offerOrders rs os s).backlog.Sublist s.backlog := by
  induction os generalizing s with
  | nil => exact .refl _
  | cons o os ih =>
    unfold State.offerOrders
    split
    · split
      · refine (ih _).trans ?_
        rw [State.place_eq]
        exact List.erase_sublist
      · exact ih s
    · exact ih s

/-- A rollback changes the backlog and the reported slots (R87). -/
theorem State.rollback_eq (s : State) (origin : Origin) (e : Entry) :
    s.rollback origin e = { s with
      backlog := insertOrdered Order.before (e.toOrder origin) s.backlog,
      reported := s.reported ++ (if e.late then [e.slot] else []) } := by
  unfold State.rollback State.reportIf State.report State.insertBacklog
  split
  · rfl
  · simp

/-- The board of a route dissolves into the backlog: the routes, the backlog and the reported slots change (R75). -/
theorem State.rollbacks_eq (origin : Origin) (es : List Entry) (s : State) :
    es.foldl (fun x e => x.rollback origin e) s = { s with
      backlog := (es.foldl (fun x e => x.rollback origin e) s).backlog,
      reported := (es.foldl (fun x e => x.rollback origin e) s).reported } := by
  induction es generalizing s with
  | nil => rfl
  | cons e es ih =>
    simp only [List.foldl_cons]
    rw [ih, State.rollback_eq]

/-! ## Route Unit -/

/-- What follows an evaluation changes the reported slots and what LATE_ORDER changes (R61). -/
theorem State.noteMarks_eq (s : State) (old new : List Entry) :
    s.noteMarks old new = { s with
      reported := (s.noteMarks old new).reported, forwardQueue := (s.noteMarks old new).forwardQueue,
      emitQueue := (s.noteMarks old new).emitQueue, ringOut := (s.noteMarks old new).ringOut,
      burst := (s.noteMarks old new).burst, flags := (s.noteMarks old new).flags } := by
  unfold State.noteMarks State.reportAll
  dsimp only
  split
  · rw [State.raise_eq]
  · rfl

/-- Re-timing changes one route and what an evaluation changes (R49, R74). -/
theorem State.retimeTours_eq (s : State) (r : Nat) (f : Nat → Tour → Nat) :
    s.retimeTours r f = { s with
      routes := (s.retimeTours r f).routes, reported := (s.retimeTours r f).reported,
      forwardQueue := (s.retimeTours r f).forwardQueue, emitQueue := (s.retimeTours r f).emitQueue,
      ringOut := (s.retimeTours r f).ringOut, burst := (s.retimeTours r f).burst, flags := (s.retimeTours r f).flags } := by
  unfold State.retimeTours
  dsimp only
  rw [State.noteMarks_eq]
  rfl

/-- Appending tours changes the routes alone (R54, R62). -/
theorem State.appendUpTo_eq (r n : Nat) (s : State) :
    State.appendUpTo r n s = { s with routes := (State.appendUpTo r n s).routes } := by
  induction n generalizing s with
  | zero => rfl
  | succ n ih =>
    unfold State.appendUpTo
    split
    · rw [ih]; rfl
    · rfl

theorem State.appendTours_eq (s : State) (r : Nat) :
    s.appendTours r = { s with routes := (s.appendTours r).routes } := by
  unfold State.appendTours
  split
  · exact State.appendUpTo_eq r _ s
  · rfl

/-- Telegrams handed to LU one after another change what one changes (R157). -/
theorem State.emits_eq (cls dst : Nat) (ps : List (List Byte)) (s : State) :
    ps.foldl (fun x p => x.emit cls dst p) s = { s with
      forwardQueue := (ps.foldl (fun x p => x.emit cls dst p) s).forwardQueue,
      emitQueue := (ps.foldl (fun x p => x.emit cls dst p) s).emitQueue,
      ringOut := (ps.foldl (fun x p => x.emit cls dst p) s).ringOut,
      burst := (ps.foldl (fun x p => x.emit cls dst p) s).burst,
      flags := (ps.foldl (fun x p => x.emit cls dst p) s).flags } := by
  induction ps generalizing s with
  | nil => rfl
  | cons p ps ih =>
    simp only [List.foldl_cons]
    rw [ih, State.emit_eq]

/-- A freeze changes the routes and what emission changes (R64). -/
theorem State.freeze_eq (s : State) (r : Nat) :
    s.freeze r = { s with
      routes := (s.freeze r).routes, forwardQueue := (s.freeze r).forwardQueue, emitQueue := (s.freeze r).emitQueue,
      ringOut := (s.freeze r).ringOut, burst := (s.freeze r).burst, flags := (s.freeze r).flags } := by
  unfold State.freeze State.publish
  split
  · rfl
  · dsimp only
    rw [State.emits_eq]
    rfl

/-- The cutoff reached changes the routes, the reported slots and what emission changes (R46). -/
theorem State.cutoff_eq (s : State) (r : Nat) :
    s.cutoff r = { s with
      routes := (s.cutoff r).routes, reported := (s.cutoff r).reported, forwardQueue := (s.cutoff r).forwardQueue,
      emitQueue := (s.cutoff r).emitQueue, ringOut := (s.cutoff r).ringOut, burst := (s.cutoff r).burst,
      flags := (s.cutoff r).flags } := by
  unfold State.cutoff
  split
  · rfl
  · split
    · rfl
    · dsimp only
      split
      · rw [State.freeze_eq, State.noteMarks_eq]; rfl
      · rw [State.noteMarks_eq]; rfl

/-- The start of a tour changes the trains and what emission changes (R117). -/
theorem State.startTour_eq (s : State) (r : Nat) (t : Tour) :
    s.startTour r t = { s with
      trains := (s.startTour r t).trains, forwardQueue := (s.startTour r t).forwardQueue,
      emitQueue := (s.startTour r t).emitQueue, ringOut := (s.startTour r t).ringOut,
      burst := (s.startTour r t).burst, flags := (s.startTour r t).flags } := by
  unfold State.startTour State.emitTrain
  rw [State.emit_eq]
  rfl

/-- What follows the departure of a head changes the backlog, the routes, the reported slots and what emission changes (R63). -/
theorem State.afterHead_eq (s : State) (r : Nat) :
    s.afterHead r = { s with
      backlog := (s.afterHead r).backlog, routes := (s.afterHead r).routes, reported := (s.afterHead r).reported,
      forwardQueue := (s.afterHead r).forwardQueue, emitQueue := (s.afterHead r).emitQueue,
      ringOut := (s.afterHead r).ringOut, burst := (s.afterHead r).burst, flags := (s.afterHead r).flags } := by
  unfold State.afterHead State.cutoffIfDue
  split
  · rw [State.cutoff_eq, State.drain_eq, State.appendTours_eq]
  · rw [State.drain_eq, State.appendTours_eq]

/-- A departure changes the routes, the trains, the backlog, the reported slots and what emission changes (R71). -/
theorem State.depart_eq (s : State) (r : Nat) :
    s.depart r = { s with
      routes := (s.depart r).routes, trains := (s.depart r).trains, backlog := (s.depart r).backlog,
      reported := (s.depart r).reported, forwardQueue := (s.depart r).forwardQueue,
      emitQueue := (s.depart r).emitQueue, ringOut := (s.depart r).ringOut, burst := (s.depart r).burst,
      flags := (s.depart r).flags } := by
  unfold State.depart
  split
  · rfl
  · dsimp only
    split
    · rw [State.afterHead_eq, State.retimeTours_eq, State.startTour_eq, State.noteMarks_eq]; rfl
    · rw [State.afterHead_eq, State.startTour_eq, State.noteMarks_eq]; rfl

/-- A head that is held changes the routes and what DEPARTURE_HELD changes (R72). -/
theorem State.hold_eq (s : State) (r : Nat) (h : Tour) :
    s.hold r h = { s with
      routes := (s.hold r h).routes, forwardQueue := (s.hold r h).forwardQueue, emitQueue := (s.hold r h).emitQueue,
      ringOut := (s.hold r h).ringOut, burst := (s.hold r h).burst, flags := (s.hold r h).flags } := by
  unfold State.hold
  dsimp only
  split
  · rfl
  · rw [State.raise_eq]; rfl

/-- The check of a held head changes what a departure changes (R73). -/
theorem State.checkHeld_eq (s : State) (r : Nat) :
    s.checkHeld r = { s with
      routes := (s.checkHeld r).routes, trains := (s.checkHeld r).trains, backlog := (s.checkHeld r).backlog,
      reported := (s.checkHeld r).reported, forwardQueue := (s.checkHeld r).forwardQueue,
      emitQueue := (s.checkHeld r).emitQueue, ringOut := (s.checkHeld r).ringOut, burst := (s.checkHeld r).burst,
      flags := (s.checkHeld r).flags } := by
  unfold State.checkHeld
  split
  · rfl
  · split
    · exact s.depart_eq r
    · rfl

/-- A departure due that reaches the board changes what a departure changes (R70). -/
theorem State.boardDue_eq (s : State) (r : Nat) :
    s.boardDue r = { s with
      routes := (s.boardDue r).routes, trains := (s.boardDue r).trains, backlog := (s.boardDue r).backlog,
      reported := (s.boardDue r).reported, forwardQueue := (s.boardDue r).forwardQueue,
      emitQueue := (s.boardDue r).emitQueue, ringOut := (s.boardDue r).ringOut, burst := (s.boardDue r).burst,
      flags := (s.boardDue r).flags } := by
  unfold State.boardDue
  split
  · rfl
  · split
    · exact s.depart_eq r
    · rw [State.hold_eq]

/-- The departure-due event changes what a departure changes (R47). -/
theorem State.due_eq (s : State) (r : Nat) :
    s.due r = { s with
      routes := (s.due r).routes, trains := (s.due r).trains, backlog := (s.due r).backlog,
      reported := (s.due r).reported, forwardQueue := (s.due r).forwardQueue, emitQueue := (s.due r).emitQueue,
      ringOut := (s.due r).ringOut, burst := (s.due r).burst, flags := (s.due r).flags } := by
  unfold State.due
  dsimp only
  rw [State.boardDue_eq]
  split
  · rw [State.cutoff_eq]; rfl
  · rfl

/-- One unit of a timer changes what a departure changes (R43). -/
theorem State.countDown_eq (s : State) (r : Nat) :
    s.countDown r = { s with
      routes := (s.countDown r).routes, trains := (s.countDown r).trains, backlog := (s.countDown r).backlog,
      reported := (s.countDown r).reported, forwardQueue := (s.countDown r).forwardQueue,
      emitQueue := (s.countDown r).emitQueue, ringOut := (s.countDown r).ringOut, burst := (s.countDown r).burst,
      flags := (s.countDown r).flags } := by
  unfold State.countDown
  dsimp only
  split
  · rw [State.due_eq]; rfl
  · split
    · rw [State.cutoff_eq]; rfl
    · rfl

/-- The cutoff a count passes on its way to 0 changes the routes, the reported slots and what emission changes (R46). -/
theorem State.passCutoff_eq (s : State) (r : Nat) :
    s.passCutoff r = { s with
      routes := (s.passCutoff r).routes, reported := (s.passCutoff r).reported,
      forwardQueue := (s.passCutoff r).forwardQueue, emitQueue := (s.passCutoff r).emitQueue,
      ringOut := (s.passCutoff r).ringOut, burst := (s.passCutoff r).burst, flags := (s.passCutoff r).flags } := by
  unfold State.passCutoff
  split
  · rw [State.cutoff_eq]; rfl
  · rfl

/-- A departure due that a command brings about changes what a departure changes (R47). -/
theorem State.reachDue_eq (s : State) (r : Nat) :
    s.reachDue r = { s with
      routes := (s.reachDue r).routes, trains := (s.reachDue r).trains, backlog := (s.reachDue r).backlog,
      reported := (s.reachDue r).reported, forwardQueue := (s.reachDue r).forwardQueue,
      emitQueue := (s.reachDue r).emitQueue, ringOut := (s.reachDue r).ringOut, burst := (s.reachDue r).burst,
      flags := (s.reachDue r).flags } := by
  unfold State.reachDue
  split
  · rw [State.due_eq, State.passCutoff_eq]
  · rfl

/-! ## Placement -/

/-- The candidates of a route are the waiting tours that can take an order, at their positions (R84). -/
theorem State.mem_candidates (s : State) (r : Nat) (t : Tour) (k : Nat) :
    (t, k) ∈ s.candidates r ↔ (s.route r).waiting[k]? = some t ∧ s.takesOrders r t = true := by
  simp [State.candidates, List.mem_zipIdx_iff_getElem?]

/-! ## Interrupted Tour Store -/

/-- A record keeps every open entry of its tour, in the order of R58 (R135). -/
theorem captureOf_pending (t : Tour) (ro : Route) (route train : Nat) (cause : Cause) (now : Nat) :
    (captureOf t ro route train cause now).pending.Perm ((t.entries.filter Entry.isOpen).map Entry.toPending) ∧
    (captureOf t ro route train cause now).pending.Pairwise fun a b => Pending.before b a = false :=
  ⟨sortOrdered_perm _ _, sortOrdered_pairwise _ Pending.before_asymm Pending.before_trans⟩

/-! ## Train Unit -/

/-- A presumption changes the routes, the slot table, the reported slots and what alerts change (R119, R122, R127). -/
theorem State.presume_eq (s : State) (r : Nat) (t : Tour) (pick : Entry → Bool) :
    s.presume r t pick = { s with
      routes := (s.presume r t pick).routes, slots := (s.presume r t pick).slots,
      reported := (s.presume r t pick).reported, forwardQueue := (s.presume r t pick).forwardQueue,
      emitQueue := (s.presume r t pick).emitQueue, ringOut := (s.presume r t pick).ringOut,
      burst := (s.presume r t pick).burst, flags := (s.presume r t pick).flags } := by
  unfold State.presume
  dsimp only
  split
  · rw [State.credits_eq]; rfl
  · rw [State.raise_eq, State.credits_eq]; rfl

end Sys2Proof.Machine
end

