-- ==== Sys2Proof/Laws/Lamps.lean ====
section
/-! SUPPORT. What the end of an event can do: lamp derivations change the stored lamps, LU's own fields, the flags and the draw
counter, and nothing where no slot was reported. -/

namespace Sys2Proof.Machine

/-- A lamp derivation changes the slot table, LU's fields and the flags (R20). -/
theorem State.deriveLamp_eq (s : State) (i : Nat) :
    s.deriveLamp i = { s with slots := (s.deriveLamp i).slots, forwardQueue := (s.deriveLamp i).forwardQueue,
                              emitQueue := (s.deriveLamp i).emitQueue, ringOut := (s.deriveLamp i).ringOut,
                              burst := (s.deriveLamp i).burst, flags := (s.deriveLamp i).flags } := by
  unfold State.deriveLamp State.emitLamp
  split
  · split
    · rw [State.emit_eq]; rfl
    · rw [State.emit_eq]
  · rfl

/-- A lamp derivation leaves every slot as it was but for its stored lamp (R20). -/
theorem State.deriveLamp_slot (s : State) (i j : Nat) :
    (s.deriveLamp i).slot j = { s.slot j with lamp := ((s.deriveLamp i).slot j).lamp } := by
  unfold State.deriveLamp State.emitLamp
  split
  · split
    · rw [State.slot_modSlot]
      split
      · rename_i h
        simp [State.slot, h.1]
      · simp [State.slot]
    · simp [State.slot]
  · rfl

/-- Several derivations change what one changes. -/
theorem State.deriveLamps_eq (is : List Nat) (s : State) :
    is.foldl State.deriveLamp s
      = { s with slots := (is.foldl State.deriveLamp s).slots, forwardQueue := (is.foldl State.deriveLamp s).forwardQueue,
                 emitQueue := (is.foldl State.deriveLamp s).emitQueue, ringOut := (is.foldl State.deriveLamp s).ringOut,
                 burst := (is.foldl State.deriveLamp s).burst, flags := (is.foldl State.deriveLamp s).flags } := by
  induction is generalizing s with
  | nil => rfl
  | cons i is ih =>
    simp only [List.foldl_cons]
    rw [ih, State.deriveLamp_eq]

/-- Several derivations leave every slot as it was but for its stored lamp. -/
theorem State.deriveLamps_slot (is : List Nat) (s : State) (j : Nat) :
    (is.foldl State.deriveLamp s).slot j
      = { s.slot j with lamp := ((is.foldl State.deriveLamp s).slot j).lamp } := by
  induction is generalizing s with
  | nil => rfl
  | cons i is ih =>
    simp only [List.foldl_cons]
    rw [ih, State.deriveLamp_slot]

/-- The end of an event changes the slot table, LU's fields, the flags, the reported slots and the draw counter (R19). -/
theorem State.settleLamps_eq (s : State) :
    s.settleLamps
      = { s with slots := s.settleLamps.slots, forwardQueue := s.settleLamps.forwardQueue,
                 emitQueue := s.settleLamps.emitQueue, ringOut := s.settleLamps.ringOut,
                 burst := s.settleLamps.burst, flags := s.settleLamps.flags, reported := [],
                 draws := s.settleLamps.draws } := by
  unfold State.settleLamps
  rw [State.deriveLamps_eq]

/-- The end of an event leaves every slot as it was but for its stored lamp. -/
theorem State.settleLamps_slot (s : State) (j : Nat) :
    s.settleLamps.slot j = { s.slot j with lamp := (s.settleLamps.slot j).lamp } :=
  State.deriveLamps_slot _ _ j

/-- An event that reported no slot ends without a derivation (R19). -/
theorem State.settleLamps_settled {s : State} (h : s.reported = []) : s.settleLamps = s := by
  cases s
  simp only at h
  subst h
  rfl

/-- After an event no slot waits for a derivation. -/
@[simp] theorem State.settleLamps_reported (s : State) : s.settleLamps.reported = [] := by rw [State.settleLamps_eq]
@[simp] theorem State.settleLamps_backlog (s : State) : s.settleLamps.backlog = s.backlog := by rw [State.settleLamps_eq]
@[simp] theorem State.settleLamps_routes (s : State) : s.settleLamps.routes = s.routes := by rw [State.settleLamps_eq]
@[simp] theorem State.settleLamps_trains (s : State) : s.settleLamps.trains = s.trains := by rw [State.settleLamps_eq]
@[simp] theorem State.settleLamps_records (s : State) : s.settleLamps.records = s.records := by rw [State.settleLamps_eq]
@[simp] theorem State.settleLamps_mode (s : State) : s.settleLamps.mode = s.mode := by rw [State.settleLamps_eq]
@[simp] theorem State.settleLamps_station (s : State) : s.settleLamps.station = s.station := by rw [State.settleLamps_eq]
@[simp] theorem State.settleLamps_server (s : State) : s.settleLamps.server = s.server := by rw [State.settleLamps_eq]
@[simp] theorem State.settleLamps_serial (s : State) : s.settleLamps.serial = s.serial := by rw [State.settleLamps_eq]
@[simp] theorem State.settleLamps_pending (s : State) : s.settleLamps.pending = s.pending := by rw [State.settleLamps_eq]
@[simp] theorem State.settleLamps_pt (s : State) : s.settleLamps.pt = s.pt := by rw [State.settleLamps_eq]
@[simp] theorem State.settleLamps_takt (s : State) : s.settleLamps.takt = s.takt := by rw [State.settleLamps_eq]
@[simp] theorem State.settleLamps_storeOp (s : State) : s.settleLamps.storeOp = s.storeOp := by rw [State.settleLamps_eq]
@[simp] theorem State.settleLamps_resetLow (s : State) : s.settleLamps.resetLow = s.resetLow := by rw [State.settleLamps_eq]
@[simp] theorem State.settleLamps_route (s : State) (r : Nat) : s.settleLamps.route r = s.route r := by
  rw [State.settleLamps_eq]; rfl
@[simp] theorem State.settleLamps_train (s : State) (r : Nat) : s.settleLamps.train r = s.train r := by
  rw [State.settleLamps_eq]; rfl
@[simp] theorem State.settleLamps_record (s : State) (k : Nat) : s.settleLamps.record k = s.record k := by
  rw [State.settleLamps_eq]; rfl

/-- A flag that stands keeps standing through the end of the event. -/
theorem State.setFlag_flagSet (s : State) (a b : Alert) (h : s.flagSet a = true) : (s.setFlag b).flagSet a = true := by
  unfold State.flagSet State.setFlag at *
  simp [h]

end Sys2Proof.Machine
end

