-- ==== Sys2Proof/Laws/Hear.lean ====
section
/-! SUPPORT. What a telegram does that the part hears: which block takes it, and the state its meaning leaves. One lemma per
listener of Safety.lean; the statements about commands start from these. -/

namespace Sys2Proof.Machine

@[simp] theorem Frame.make_cls (cls dst src : Nat) (p : List Byte) : (Frame.make cls dst src p).cls = cls := rfl
@[simp] theorem Frame.make_dst (cls dst src : Nat) (p : List Byte) : (Frame.make cls dst src p).dst = dst := rfl
@[simp] theorem Frame.make_src (cls dst src : Nat) (p : List Byte) : (Frame.make cls dst src p).src = src := rfl
@[simp] theorem Frame.make_payload (cls dst src : Nat) (p : List Byte) : (Frame.make cls dst src p).payload = p := rfl

/-- A commissioned part strips no frame of another station, but for its own answer of old (R151). -/
theorem State.strips_foreign {s : State} {f : Frame} (hm : s.mode ≠ .uncommissioned) (hc : f.cls ≠ clsMaintReply)
    (hs : s.station ≠ some f.src) : s.strips f = false := by
  cases hmode : s.mode <;> simp_all [State.strips, State.ownAnswer]

/-! ## Plant stations -/

/-- A PULL for a slot's key goes to SU and is not forwarded (R8, R152). -/
theorem State.hear_pull {s : State} {h : Hop} {position i : Nat} (payload : List Byte) (op : PullOp)
    (hh : s.hearsRack h position i) :
    s.hear clsPull h payload (.pull (some position) op) = (s.takePull i op).settleLamps := by
  obtain ⟨⟨hl, hm, -⟩, hs, hk⟩ := hh
  have hst : s.strips (Frame.make clsPull h.dst h.src payload) = false :=
    State.strips_foreign hm (by simp [clsPull, clsMaintReply]) hs
  simp [State.hear, State.receive, hl, hst, hm, State.dispose, hk]

/-- A telegram of the line is offered to the forward queue, then taken by its block (R152, R156). -/
theorem State.hear_vehicle {s : State} {h : Hop} (payload : List Byte) (r : Option VehicleReport) (hh : s.hearsLine h) :
    s.hear clsVehicle h payload (.vehicle r)
      = ((s.forward (Frame.sent h clsVehicle payload)).takeReport r).settleLamps := by
  obtain ⟨⟨hl, hm, -⟩, hs⟩ := hh
  have hst : s.strips (Frame.make clsVehicle h.dst h.src payload) = false :=
    State.strips_foreign hm (by simp [clsVehicle, clsMaintReply]) hs
  simp [State.hear, State.receive, hl, hst, hm, State.dispose, Frame.sent]

/-- A LINE telegram is offered to the forward queue, then taken by LM (R99, R152, R156). -/
theorem State.hear_line {s : State} {h : Hop} (payload : List Byte) (op : LineOp) (hh : s.hearsLine h) :
    s.hear clsLine h payload (.line op) = ((s.forward (Frame.sent h clsLine payload)).takeLine op).settleLamps := by
  obtain ⟨⟨hl, hm, -⟩, hs⟩ := hh
  have hst : s.strips (Frame.make clsLine h.dst h.src payload) = false :=
    State.strips_foreign hm (by simp [clsLine, clsMaintReply]) hs
  simp [State.hear, State.receive, hl, hst, hm, State.dispose, Frame.sent]

/-- A PICK of a route's pick station goes to RU (R67, R154). -/
theorem State.hear_pick {s : State} {h : Hop} {r : Nat} (tour : Nat) (op : PickOp) (hh : s.hearsPickStation h r) :
    s.hearPick h r tour op = (s.takePickOp r tour op).settleLamps := by
  obtain ⟨⟨hl, hm, -⟩, hd, hs, hr, hc, hp⟩ := hh
  have hst : s.strips (Frame.make clsPick h.dst h.src (op.payload r tour)) = false :=
    State.strips_foreign hm (by simp [clsPick, clsMaintReply]) (by simpa [hd] using Ne.symm hs)
  simp [State.hearPick, State.hear, State.receive, hl, hst, hm, State.dispose, State.takesPick, hd, hr, hc, hp,
    State.takePick, Config.routeCount]

/-- A TRAIN_UP addressed to the part by the radio bridge goes to TU (R111, R153). -/
theorem State.hear_train {s : State} {h : Hop} {train : Nat} (r : Nat) (op : TrainOp) (hh : s.hearsBridge h train) :
    s.hearTrain h r train op = ((s.hears r train op).takeTrainOp r train op).settleLamps := by
  obtain ⟨⟨hl, hm, -⟩, hd, hs, h0, hb, ht1, ht2⟩ := hh
  have hst : s.strips (Frame.make clsTrainUp h.dst h.src (op.payload r train)) = false :=
    State.strips_foreign hm (by simp [clsTrainUp, clsMaintReply]) (by simpa [hd] using Ne.symm hs)
  have hn : ¬ (train = 0 ∨ 255 ≤ train) := by omega
  simp [State.hearTrain, State.hear, State.receive, hl, hst, hm, State.dispose, State.takesTrainUp, hd, hb, h0,
    State.takeTrainUp, hn]

/-! ## Signs of life (R126) -/

/-- A fold of steps none of which changes the state. -/
theorem foldl_fixed {α β : Type} (f : β → α → β) (l : List α) (b : β) (h : ∀ a ∈ l, f b a = b) : l.foldl f b = b := by
  induction l with
  | nil => rfl
  | cons a l ih =>
    rw [List.foldl_cons, h a (by simp)]
    exact ih fun x hx => h x (by simp [hx])

/-- A train bound to no route sets back no silence timer. -/
theorem State.heard_stranger {s : State} {train : Nat} (h : s.boundNowhere train) : s.heard train = s := by
  unfold State.heard
  refine foldl_fixed _ _ _ fun r hr => ?_
  have hr' : r < 8 := by simpa [Config.routeCount] using hr
  have := h r hr'
  split
  · split
    · rename_i hc
      exfalso
      apply this
      revert hc
      cases (s.train r).binding <;> simp +contextual [Binding.boundTrain, Binding.trainId]
    · rfl
  · rfl

/-- A train bound at most to a route with no running tour sets back no silence timer. -/
theorem State.heard_idle {s : State} {train r : Nat} (h : s.boundOnlyTo train r)
    (hr : (s.route r).running = none ∨ (s.train r).binding.boundTrain ≠ some train) : s.heard train = s := by
  unfold State.heard
  refine foldl_fixed _ _ _ fun q hq => ?_
  have hq' : q < 8 := by simpa [Config.routeCount] using hq
  split
  · rename_i t ht
    split
    · rename_i hc
      have := h q hq' hc.1
      subst this
      rcases hr with hr | hr
      · simp [hr] at ht
      · exact absurd hc.1 hr
    · rfl
  · rfl

/-! ## The server -/

/-- A MAINT_REQ of the server goes to MU (R152, R162). -/
theorem State.hear_request {s : State} {e : Envelope} (index fromField : Nat) (q : Request) (hh : s.hearsServer e) :
    s.hearRequest e index fromField q = (s.serve e.src (q.read e.number)).settleLamps := by
  obtain ⟨⟨hl, hm, -⟩, hd, hv, hs⟩ := hh
  have hst : s.strips (Frame.make clsMaintReq e.dst e.src (q.payload e.number index fromField)) = false :=
    State.strips_foreign hm (by simp [clsMaintReq, clsMaintReply]) (by simpa [hd] using Ne.symm hs)
  simp [State.hearRequest, State.hear, State.receive, hl, hst, hm, State.dispose, hd]

/-- A request of the server that its mode takes, with no store operation in its way, is carried out (R163). -/
theorem State.hear_request_taken {s : State} {e : Envelope} (index fromField : Nat) (q : Request) (hh : s.hearsServer e)
    (hmode : q.kind.modeRefusal s.mode = none) (hstore : s.storeOp = none ∨ q.kind.waitsForStore = false) :
    s.hearRequest e index fromField q
      = (s.carryOut { src := e.src, kind := byte q.kind.code, number := byte e.number } q).settleLamps := by
  rw [State.hear_request index fromField q hh]
  have hno : s.maintRefusal e.src q.kind true = none := by
    rcases hstore with h | h <;> simp [State.maintRefusal, hh.2.2.1, hmode, h]
  simp [State.serve, Request.read, hno]

/-- A request of the server that a check of MU refuses is answered with that status and changes nothing else (R163). -/
theorem State.hear_request_refused {s : State} {e : Envelope} (index fromField : Nat) (q : Request) (st : Status)
    (hh : s.hearsServer e) (hr : s.maintRefusal e.src q.kind true = some st) :
    s.hearRequest e index fromField q
      = s.answered e q.kind.code st.code (s.refusalData q.kind) := by
  rw [State.hear_request index fromField q hh]
  have : s.serve e.src (q.read e.number)
      = s.answered e q.kind.code st.code (s.refusalData q.kind) := by
    simp [State.serve, Request.read, hr, State.reply, State.answered]
  rw [this]
  apply State.settleLamps_settled
  have := hh.1.2.2
  simpa [State.answered, State.settled] using this

/-- MU's reply to a request is the answer statements speak of (R162). -/
theorem State.reply_answered (s : State) (e : Envelope) (kind : Nat) (st : Status) (data : List Byte) :
    s.reply { src := e.src, kind := byte kind, number := byte e.number } st data
      = s.answered e kind st.code data := by
  simp [State.reply, State.answered]

/-- An event that ends with an answer and reported no slot ends there. -/
theorem State.answered_settled {s : State} {e : Envelope} {kind st : Nat} {data : List Byte} (h : s.reported = []) :
    (s.answered e kind st data).settleLamps = s.answered e kind st data :=
  State.settleLamps_settled (by simpa [State.answered] using h)

end Sys2Proof.Machine
end

