-- ==== Sys2Proof/Laws/Frames.lean ====
section
/-! SUPPORT. Frames on the ring: what is built is what is read back, byte order and check value included (R148, R149, R173). -/

namespace Sys2Proof.Machine

/-- A number within a byte is read back from its byte. -/
theorem byte_toNat {n : Nat} (h : n < 256) : (byte n).toNat = n := by
  simp only [byte, BitVec.toNat_ofNat]
  exact Nat.mod_eq_of_lt h

/-- A number within two bytes is read back from them (R173). -/
theorem value16_be16 {n : Nat} (h : n < 65536) : value16 (byte (n / 256)) (byte n) = n := by
  simp only [value16, byte, BitVec.toNat_ofNat]
  omega

/-- A number within four bytes is read back from them (R173). -/
theorem value32_be32 {n : Nat} (h : n < 4294967296) :
    value32 (byte (n / 65536 / 256)) (byte (n / 65536)) (byte (n / 256)) (byte n) = n := by
  simp only [value32, value16, byte, BitVec.toNat_ofNat]
  omega

/-- A number within six bytes is read back from them (R173). -/
theorem value48_be48 {n : Nat} (h : n < 281474976710656) :
    value48 (byte (n / 4294967296 / 256)) (byte (n / 4294967296)) (byte (n / 65536 / 256)) (byte (n / 65536))
      (byte (n / 256)) (byte n) = n := by
  simp only [value48, value32, value16, byte, BitVec.toNat_ofNat]
  omega

/-- The bytes of a frame built from fields within their widths are received as that frame (R148, R149, R150). -/
theorem Frame.parse_make {cls dst src : Nat} {payload : List Byte} (hc : cls < 256) (hd : dst < 256) (hs : src < 256)
    (hp : payload.length ≤ 120) :
    Frame.parse (Frame.make cls dst src payload).bytes = some (Frame.make cls dst src payload) := by
  have hl : (byte payload.length).toNat = payload.length := byte_toNat (by omega)
  have hchk : ∀ w : Word16, value16 (byte (w.toNat / 256)) (byte w.toNat) = w.toNat := fun w => value16_be16 w.isLt
  simp only [Frame.bytes, Frame.make, checkedBytes, be16, List.cons_append, Frame.parse, hl, Config.payloadMax,
    List.length_append, List.length_cons, List.length_nil, List.drop_left, List.take_left, hchk]
  simp only [hp, true_and, if_true, byte_toNat hc, byte_toNat hd, byte_toNat hs, BitVec.ofNat_toNat,
    BitVec.setWidth_eq]

end Sys2Proof.Machine
end

