-- ==== Sys2Proof/Laws/PerInstr.lean ====
section
/-! SUPPORT. Statements about every command as syntax, one lemma per constructor: the frame a well-formed command travels as has
its fields within their widths, so that LU receives it whole (R148, Tables 11-1 to 11-6). -/

namespace Sys2Proof.Laws

open Sys2Proof.Machine

/-- The frame of a well-formed command, where it is a telegram, is a whole frame with class and stations in a byte each and at
most 120 payload bytes. -/
def FrameFits.Statement (c : Instr) : Prop :=
  c.wellFormed = true → ∀ f, telegramFrame c = some f →
    f = Frame.make f.cls f.dst f.src f.payload ∧ f.cls < 256 ∧ f.dst < 256 ∧ f.src < 255 ∧ f.payload.length ≤ 120

/-- A frame built with an addressing in range fits. -/
theorem FrameFits.of_make {cls dst src : Nat} {payload : List Byte} {f : Frame} (hf : Frame.make cls dst src payload = f)
    (hc : cls < 256) (hd : dst < 256) (hs : src < 255) (hp : payload.length ≤ 120) :
    f = Frame.make f.cls f.dst f.src f.payload ∧ f.cls < 256 ∧ f.dst < 256 ∧ f.src < 255 ∧ f.payload.length ≤ 120 := by
  subst hf
  exact ⟨rfl, hc, hd, hs, hp⟩

/-- An addressing within its widths. -/
theorem FrameFits.hop {h : Hop} (hw : h.wellFormed = true) : h.dst < 256 ∧ h.src < 255 := by
  simpa [Hop.wellFormed, isByte, isSource] using hw

/-- A request's addressing within its widths. -/
theorem FrameFits.envelope {e : Envelope} (hw : e.wellFormed = true) : e.dst < 256 ∧ e.src < 255 := by
  have : (e.dst < 256 ∧ e.src < 255) ∧ e.number < 256 := by
    simpa [Envelope.wellFormed, isByte, isSource] using hw
  exact this.1

/-! ## One lemma per command -/

theorem FrameFits.ringInFrame (bytes : List Byte) :
    FrameFits.Statement (.ringInFrame bytes) := by
  intro _ f hf
  exact absurd hf (by simp [telegramFrame, requestOf, plantFrame])

theorem FrameFits.transmissionEnd : FrameFits.Statement .transmissionEnd := by
  intro _ f hf
  exact absurd hf (by simp [telegramFrame, requestOf, plantFrame])

theorem FrameFits.binEmpty (hop : Hop) (position : Nat) :
    FrameFits.Statement (.binEmpty hop position) := by
  intro hw f hf
  simp only [Instr.wellFormed, Bool.and_eq_true] at hw
  have ha := FrameFits.hop hw.1
  refine FrameFits.of_make (Option.some.inj hf) (by decide) ha.1 ha.2 ?_
  exact Nat.le_of_ble_eq_true rfl

theorem FrameFits.binCount (hop : Hop) (position n : Nat) :
    FrameFits.Statement (.binCount hop position n) := by
  intro hw f hf
  simp only [Instr.wellFormed, Bool.and_eq_true, and_assoc] at hw
  have ha := FrameFits.hop hw.1
  refine FrameFits.of_make (Option.some.inj hf) (by decide) ha.1 ha.2 ?_
  exact Nat.le_of_ble_eq_true rfl

theorem FrameFits.cancel (hop : Hop) (position : Nat) :
    FrameFits.Statement (.cancel hop position) := by
  intro hw f hf
  simp only [Instr.wellFormed, Bool.and_eq_true] at hw
  have ha := FrameFits.hop hw.1
  refine FrameFits.of_make (Option.some.inj hf) (by decide) ha.1 ha.2 ?_
  exact Nat.le_of_ble_eq_true rfl

theorem FrameFits.vehicle (hop : Hop) (station model sequence : Nat) :
    FrameFits.Statement (.vehicle hop station model sequence) := by
  intro hw f hf
  simp only [Instr.wellFormed, Bool.and_eq_true, and_assoc] at hw
  have ha := FrameFits.hop hw.1
  refine FrameFits.of_make (Option.some.inj hf) (by decide) ha.1 ha.2 ?_
  exact Nat.le_of_ble_eq_true rfl

theorem FrameFits.lineRunning (hop : Hop) (takt : Nat) :
    FrameFits.Statement (.lineRunning hop takt) := by
  intro hw f hf
  simp only [Instr.wellFormed, Bool.and_eq_true] at hw
  have ha := FrameFits.hop hw.1
  refine FrameFits.of_make (Option.some.inj hf) (by decide) ha.1 ha.2 ?_
  exact Nat.le_of_ble_eq_true rfl

theorem FrameFits.lineStopped (hop : Hop) :
    FrameFits.Statement (.lineStopped hop) := by
  intro hw f hf
  have ha := FrameFits.hop hw
  refine FrameFits.of_make (Option.some.inj hf) (by decide) ha.1 ha.2 ?_
  exact Nat.le_of_ble_eq_true rfl

theorem FrameFits.cutoffReached (route : Nat) :
    FrameFits.Statement (.cutoffReached route) := by
  intro _ f hf
  exact absurd hf (by simp [telegramFrame, requestOf, plantFrame])

theorem FrameFits.departureDue (route : Nat) :
    FrameFits.Statement (.departureDue route) := by
  intro _ f hf
  exact absurd hf (by simp [telegramFrame, requestOf, plantFrame])

theorem FrameFits.pickStart (hop : Hop) (route tour : Nat) :
    FrameFits.Statement (.pickStart hop route tour) := by
  intro hw f hf
  simp only [Instr.wellFormed, Bool.and_eq_true, and_assoc] at hw
  have ha := FrameFits.hop hw.1
  refine FrameFits.of_make (Option.some.inj hf) (by decide) ha.1 ha.2 ?_
  exact Nat.le_of_ble_eq_true rfl

theorem FrameFits.pickDone (hop : Hop) (route tour : Nat) :
    FrameFits.Statement (.pickDone hop route tour) := by
  intro hw f hf
  simp only [Instr.wellFormed, Bool.and_eq_true, and_assoc] at hw
  have ha := FrameFits.hop hw.1
  refine FrameFits.of_make (Option.some.inj hf) (by decide) ha.1 ha.2 ?_
  exact Nat.le_of_ble_eq_true rfl

theorem FrameFits.pickShort (hop : Hop) (route tour entry : Nat) :
    FrameFits.Statement (.pickShort hop route tour entry) := by
  intro hw f hf
  simp only [Instr.wellFormed, Bool.and_eq_true, and_assoc] at hw
  have ha := FrameFits.hop hw.1
  refine FrameFits.of_make (Option.some.inj hf) (by decide) ha.1 ha.2 ?_
  exact Nat.le_of_ble_eq_true rfl

theorem FrameFits.checkIn (hop : Hop) (route train capacity : Nat) :
    FrameFits.Statement (.checkIn hop route train capacity) := by
  intro hw f hf
  simp only [Instr.wellFormed, Bool.and_eq_true, and_assoc] at hw
  have ha := FrameFits.hop hw.1
  refine FrameFits.of_make (Option.some.inj hf) (by decide) ha.1 ha.2 ?_
  exact Nat.le_of_ble_eq_true rfl

theorem FrameFits.checkAccept (hop : Hop) (route train offer : Nat) :
    FrameFits.Statement (.checkAccept hop route train offer) := by
  intro hw f hf
  simp only [Instr.wellFormed, Bool.and_eq_true, and_assoc] at hw
  have ha := FrameFits.hop hw.1
  refine FrameFits.of_make (Option.some.inj hf) (by decide) ha.1 ha.2 ?_
  exact Nat.le_of_ble_eq_true rfl

theorem FrameFits.offerTimerExpiry (route : Nat) :
    FrameFits.Statement (.offerTimerExpiry route) := by
  intro _ f hf
  exact absurd hf (by simp [telegramFrame, requestOf, plantFrame])

theorem FrameFits.signOff (hop : Hop) (route train : Nat) :
    FrameFits.Statement (.signOff hop route train) := by
  intro hw f hf
  simp only [Instr.wellFormed, Bool.and_eq_true, and_assoc] at hw
  have ha := FrameFits.hop hw.1
  refine FrameFits.of_make (Option.some.inj hf) (by decide) ha.1 ha.2 ?_
  exact Nat.le_of_ble_eq_true rfl

theorem FrameFits.pass (hop : Hop) (route train marker : Nat) :
    FrameFits.Statement (.pass hop route train marker) := by
  intro hw f hf
  simp only [Instr.wellFormed, Bool.and_eq_true, and_assoc] at hw
  have ha := FrameFits.hop hw.1
  refine FrameFits.of_make (Option.some.inj hf) (by decide) ha.1 ha.2 ?_
  exact Nat.le_of_ble_eq_true rfl

theorem FrameFits.delivered (hop : Hop) (route train tour entry : Nat) :
    FrameFits.Statement (.delivered hop route train tour entry) := by
  intro hw f hf
  simp only [Instr.wellFormed, Bool.and_eq_true, and_assoc] at hw
  have ha := FrameFits.hop hw.1
  refine FrameFits.of_make (Option.some.inj hf) (by decide) ha.1 ha.2 ?_
  exact Nat.le_of_ble_eq_true rfl

theorem FrameFits.confirmationTimerExpiry (route : Nat) :
    FrameFits.Statement (.confirmationTimerExpiry route) := by
  intro _ f hf
  exact absurd hf (by simp [telegramFrame, requestOf, plantFrame])

theorem FrameFits.trainReturn (hop : Hop) (route train : Nat) :
    FrameFits.Statement (.trainReturn hop route train) := by
  intro hw f hf
  simp only [Instr.wellFormed, Bool.and_eq_true, and_assoc] at hw
  have ha := FrameFits.hop hw.1
  refine FrameFits.of_make (Option.some.inj hf) (by decide) ha.1 ha.2 ?_
  exact Nat.le_of_ble_eq_true rfl

theorem FrameFits.trainFault (hop : Hop) (route train code : Nat) :
    FrameFits.Statement (.trainFault hop route train code) := by
  intro hw f hf
  simp only [Instr.wellFormed, Bool.and_eq_true, and_assoc] at hw
  have ha := FrameFits.hop hw.1
  refine FrameFits.of_make (Option.some.inj hf) (by decide) ha.1 ha.2 ?_
  exact Nat.le_of_ble_eq_true rfl

theorem FrameFits.silenceTimerExpiry (route : Nat) :
    FrameFits.Statement (.silenceTimerExpiry route) := by
  intro _ f hf
  exact absurd hf (by simp [telegramFrame, requestOf, plantFrame])

theorem FrameFits.identify (env : Envelope) :
    FrameFits.Statement (.identify env) := by
  intro hw f hf
  have ha := FrameFits.envelope hw
  refine FrameFits.of_make (Option.some.inj hf) (by decide) ha.1 ha.2 ?_
  exact Nat.le_of_ble_eq_true rfl

theorem FrameFits.commission (env : Envelope) (serial station server : Nat) :
    FrameFits.Statement (.commission env serial station server) := by
  intro hw f hf
  simp only [Instr.wellFormed, Bool.and_eq_true, and_assoc] at hw
  have ha := FrameFits.envelope hw.1
  refine FrameFits.of_make (Option.some.inj hf) (by decide) ha.1 ha.2 ?_
  exact Nat.le_of_ble_eq_true rfl

theorem FrameFits.decommission (env : Envelope) :
    FrameFits.Statement (.decommission env) := by
  intro hw f hf
  have ha := FrameFits.envelope hw
  refine FrameFits.of_make (Option.some.inj hf) (by decide) ha.1 ha.2 ?_
  exact Nat.le_of_ble_eq_true rfl

theorem FrameFits.eraseCompletion : FrameFits.Statement .eraseCompletion := by
  intro _ f hf
  exact absurd hf (by simp [telegramFrame, requestOf, plantFrame])

theorem FrameFits.start (env : Envelope) :
    FrameFits.Statement (.start env) := by
  intro hw f hf
  have ha := FrameFits.envelope hw
  refine FrameFits.of_make (Option.some.inj hf) (by decide) ha.1 ha.2 ?_
  exact Nat.le_of_ble_eq_true rfl

theorem FrameFits.halt (env : Envelope) :
    FrameFits.Statement (.halt env) := by
  intro hw f hf
  have ha := FrameFits.envelope hw
  refine FrameFits.of_make (Option.some.inj hf) (by decide) ha.1 ha.2 ?_
  exact Nat.le_of_ble_eq_true rfl

theorem FrameFits.timeSet (env : Envelope) (time : Nat) :
    FrameFits.Statement (.timeSet env time) := by
  intro hw f hf
  simp only [Instr.wellFormed, Bool.and_eq_true] at hw
  have ha := FrameFits.envelope hw.1
  refine FrameFits.of_make (Option.some.inj hf) (by decide) ha.1 ha.2 ?_
  exact Nat.le_of_ble_eq_true rfl

theorem FrameFits.ptSaturation : FrameFits.Statement .ptSaturation := by
  intro _ f hf
  exact absurd hf (by simp [telegramFrame, requestOf, plantFrame])

theorem FrameFits.tableWriteSlot (env : Envelope) (index : Nat) (record : SlotRecord) :
    FrameFits.Statement (.tableWriteSlot env index record) := by
  intro hw f hf
  simp only [Instr.wellFormed, Bool.and_eq_true, and_assoc] at hw
  have ha := FrameFits.envelope hw.1
  refine FrameFits.of_make (Option.some.inj hf) (by decide) ha.1 ha.2 ?_
  exact Nat.le_of_ble_eq_true rfl

theorem FrameFits.tableWriteRoute (env : Envelope) (index : Nat) (record : RouteRecord) :
    FrameFits.Statement (.tableWriteRoute env index record) := by
  intro hw f hf
  simp only [Instr.wellFormed, Bool.and_eq_true, and_assoc] at hw
  have ha := FrameFits.envelope hw.1
  refine FrameFits.of_make (Option.some.inj hf) (by decide) ha.1 ha.2 ?_
  exact Nat.le_of_ble_eq_true rfl

theorem FrameFits.tableWriteStops (env : Envelope) (route stop offset marker : Nat) :
    FrameFits.Statement (.tableWriteStops env route stop offset marker) := by
  intro hw f hf
  simp only [Instr.wellFormed, Bool.and_eq_true, and_assoc] at hw
  have ha := FrameFits.envelope hw.1
  refine FrameFits.of_make (Option.some.inj hf) (by decide) ha.1 ha.2 ?_
  exact Nat.le_of_ble_eq_true rfl

theorem FrameFits.tableWriteLineConfig (env : Envelope) (index pacingStation defaultTakt radioBridge : Nat) :
    FrameFits.Statement (.tableWriteLineConfig env index pacingStation defaultTakt radioBridge) := by
  intro hw f hf
  simp only [Instr.wellFormed, Bool.and_eq_true, and_assoc] at hw
  have ha := FrameFits.envelope hw.1
  refine FrameFits.of_make (Option.some.inj hf) (by decide) ha.1 ha.2 ?_
  exact Nat.le_of_ble_eq_true rfl

theorem FrameFits.tableWriteAlertMask (env : Envelope) (index enables : Nat) :
    FrameFits.Statement (.tableWriteAlertMask env index enables) := by
  intro hw f hf
  simp only [Instr.wellFormed, Bool.and_eq_true, and_assoc] at hw
  have ha := FrameFits.envelope hw.1
  refine FrameFits.of_make (Option.some.inj hf) (by decide) ha.1 ha.2 ?_
  exact Nat.le_of_ble_eq_true rfl

theorem FrameFits.tableReadSlot (env : Envelope) (index : Nat) :
    FrameFits.Statement (.tableReadSlot env index) := by
  intro hw f hf
  simp only [Instr.wellFormed, Bool.and_eq_true] at hw
  have ha := FrameFits.envelope hw.1
  refine FrameFits.of_make (Option.some.inj hf) (by decide) ha.1 ha.2 ?_
  exact Nat.le_of_ble_eq_true rfl

theorem FrameFits.tableReadRoute (env : Envelope) (index : Nat) :
    FrameFits.Statement (.tableReadRoute env index) := by
  intro hw f hf
  simp only [Instr.wellFormed, Bool.and_eq_true] at hw
  have ha := FrameFits.envelope hw.1
  refine FrameFits.of_make (Option.some.inj hf) (by decide) ha.1 ha.2 ?_
  exact Nat.le_of_ble_eq_true rfl

theorem FrameFits.tableReadStops (env : Envelope) (route stop : Nat) :
    FrameFits.Statement (.tableReadStops env route stop) := by
  intro hw f hf
  simp only [Instr.wellFormed, Bool.and_eq_true, and_assoc] at hw
  have ha := FrameFits.envelope hw.1
  refine FrameFits.of_make (Option.some.inj hf) (by decide) ha.1 ha.2 ?_
  exact Nat.le_of_ble_eq_true rfl

theorem FrameFits.tableReadLineConfig (env : Envelope) (index : Nat) :
    FrameFits.Statement (.tableReadLineConfig env index) := by
  intro hw f hf
  simp only [Instr.wellFormed, Bool.and_eq_true] at hw
  have ha := FrameFits.envelope hw.1
  refine FrameFits.of_make (Option.some.inj hf) (by decide) ha.1 ha.2 ?_
  exact Nat.le_of_ble_eq_true rfl

theorem FrameFits.tableReadAlertMask (env : Envelope) (index : Nat) :
    FrameFits.Statement (.tableReadAlertMask env index) := by
  intro hw f hf
  simp only [Instr.wellFormed, Bool.and_eq_true] at hw
  have ha := FrameFits.envelope hw.1
  refine FrameFits.of_make (Option.some.inj hf) (by decide) ha.1 ha.2 ?_
  exact Nat.le_of_ble_eq_true rfl

theorem FrameFits.stateReadSlot (env : Envelope) (index fromField : Nat) :
    FrameFits.Statement (.stateReadSlot env index fromField) := by
  intro hw f hf
  simp only [Instr.wellFormed, Bool.and_eq_true, and_assoc] at hw
  have ha := FrameFits.envelope hw.1
  refine FrameFits.of_make (Option.some.inj hf) (by decide) ha.1 ha.2 ?_
  exact Nat.le_of_ble_eq_true rfl

theorem FrameFits.stateReadRoute (env : Envelope) (index fromTour fromEntry : Nat) :
    FrameFits.Statement (.stateReadRoute env index fromTour fromEntry) := by
  intro hw f hf
  simp only [Instr.wellFormed, Bool.and_eq_true, and_assoc] at hw
  have ha := FrameFits.envelope hw.1
  refine FrameFits.of_make (Option.some.inj hf) (by decide) ha.1 ha.2 ?_
  exact Nat.le_of_ble_eq_true rfl

theorem FrameFits.stateReadBacklog (env : Envelope) (index fromField : Nat) :
    FrameFits.Statement (.stateReadBacklog env index fromField) := by
  intro hw f hf
  simp only [Instr.wellFormed, Bool.and_eq_true, and_assoc] at hw
  have ha := FrameFits.envelope hw.1
  refine FrameFits.of_make (Option.some.inj hf) (by decide) ha.1 ha.2 ?_
  exact Nat.le_of_ble_eq_true rfl

theorem FrameFits.stateReadRecord (env : Envelope) (index fromPart fromEntry : Nat) :
    FrameFits.Statement (.stateReadRecord env index fromPart fromEntry) := by
  intro hw f hf
  simp only [Instr.wellFormed, Bool.and_eq_true, and_assoc] at hw
  have ha := FrameFits.envelope hw.1
  refine FrameFits.of_make (Option.some.inj hf) (by decide) ha.1 ha.2 ?_
  exact Nat.le_of_ble_eq_true rfl

theorem FrameFits.stateReadLine (env : Envelope) (index fromField : Nat) :
    FrameFits.Statement (.stateReadLine env index fromField) := by
  intro hw f hf
  simp only [Instr.wellFormed, Bool.and_eq_true, and_assoc] at hw
  have ha := FrameFits.envelope hw.1
  refine FrameFits.of_make (Option.some.inj hf) (by decide) ha.1 ha.2 ?_
  exact Nat.le_of_ble_eq_true rfl

theorem FrameFits.stateReadPart (env : Envelope) (index fromField : Nat) :
    FrameFits.Statement (.stateReadPart env index fromField) := by
  intro hw f hf
  simp only [Instr.wellFormed, Bool.and_eq_true, and_assoc] at hw
  have ha := FrameFits.envelope hw.1
  refine FrameFits.of_make (Option.some.inj hf) (by decide) ha.1 ha.2 ?_
  exact Nat.le_of_ble_eq_true rfl

theorem FrameFits.routeEnable (env : Envelope) (route : Nat) :
    FrameFits.Statement (.routeEnable env route) := by
  intro hw f hf
  simp only [Instr.wellFormed, Bool.and_eq_true] at hw
  have ha := FrameFits.envelope hw.1
  refine FrameFits.of_make (Option.some.inj hf) (by decide) ha.1 ha.2 ?_
  exact Nat.le_of_ble_eq_true rfl

theorem FrameFits.routeDisable (env : Envelope) (route : Nat) :
    FrameFits.Statement (.routeDisable env route) := by
  intro hw f hf
  simp only [Instr.wellFormed, Bool.and_eq_true] at hw
  have ha := FrameFits.envelope hw.1
  refine FrameFits.of_make (Option.some.inj hf) (by decide) ha.1 ha.2 ?_
  exact Nat.le_of_ble_eq_true rfl

theorem FrameFits.routeReload (env : Envelope) (route : Nat) :
    FrameFits.Statement (.routeReload env route) := by
  intro hw f hf
  simp only [Instr.wellFormed, Bool.and_eq_true] at hw
  have ha := FrameFits.envelope hw.1
  refine FrameFits.of_make (Option.some.inj hf) (by decide) ha.1 ha.2 ?_
  exact Nat.le_of_ble_eq_true rfl

theorem FrameFits.resolveDissolve (env : Envelope) (record route tour : Nat) :
    FrameFits.Statement (.resolveDissolve env record route tour) := by
  intro hw f hf
  simp only [Instr.wellFormed, Bool.and_eq_true, and_assoc] at hw
  have ha := FrameFits.envelope hw.1
  refine FrameFits.of_make (Option.some.inj hf) (by decide) ha.1 ha.2 ?_
  exact Nat.le_of_ble_eq_true rfl

theorem FrameFits.resolveResume (env : Envelope) (record route tour : Nat) :
    FrameFits.Statement (.resolveResume env record route tour) := by
  intro hw f hf
  simp only [Instr.wellFormed, Bool.and_eq_true, and_assoc] at hw
  have ha := FrameFits.envelope hw.1
  refine FrameFits.of_make (Option.some.inj hf) (by decide) ha.1 ha.2 ?_
  exact Nat.le_of_ble_eq_true rfl

theorem FrameFits.alertAck (env : Envelope) (flags : Nat) :
    FrameFits.Statement (.alertAck env flags) := by
  intro hw f hf
  simp only [Instr.wellFormed, Bool.and_eq_true] at hw
  have ha := FrameFits.envelope hw.1
  refine FrameFits.of_make (Option.some.inj hf) (by decide) ha.1 ha.2 ?_
  exact Nat.le_of_ble_eq_true rfl

theorem FrameFits.save (env : Envelope) (autoStart : Nat) :
    FrameFits.Statement (.save env autoStart) := by
  intro hw f hf
  simp only [Instr.wellFormed, Bool.and_eq_true] at hw
  have ha := FrameFits.envelope hw.1
  refine FrameFits.of_make (Option.some.inj hf) (by decide) ha.1 ha.2 ?_
  exact Nat.le_of_ble_eq_true rfl

theorem FrameFits.saveCompletion : FrameFits.Statement .saveCompletion := by
  intro _ f hf
  exact absurd hf (by simp [telegramFrame, requestOf, plantFrame])

theorem FrameFits.restart (env : Envelope) :
    FrameFits.Statement (.restart env) := by
  intro hw f hf
  have ha := FrameFits.envelope hw
  refine FrameFits.of_make (Option.some.inj hf) (by decide) ha.1 ha.2 ?_
  exact Nat.le_of_ble_eq_true rfl

theorem FrameFits.commandReset : FrameFits.Statement .commandReset := by
  intro _ f hf
  exact absurd hf (by simp [telegramFrame, requestOf, plantFrame])

theorem FrameFits.causeRead (env : Envelope) :
    FrameFits.Statement (.causeRead env) := by
  intro hw f hf
  have ha := FrameFits.envelope hw
  refine FrameFits.of_make (Option.some.inj hf) (by decide) ha.1 ha.2 ?_
  exact Nat.le_of_ble_eq_true rfl

theorem FrameFits.unknownKindRequest (env : Envelope) (kind : Nat) :
    FrameFits.Statement (.unknownKindRequest env kind) := by
  intro hw f hf
  simp only [Instr.wellFormed, Bool.and_eq_true] at hw
  have ha := FrameFits.envelope hw.1
  refine FrameFits.of_make (Option.some.inj hf) (by decide) ha.1 ha.2 ?_
  exact Nat.le_of_ble_eq_true rfl

theorem FrameFits.powerOn : FrameFits.Statement .powerOn := by
  intro _ f hf
  exact absurd hf (by simp [telegramFrame, requestOf, plantFrame])

theorem FrameFits.resetNLow : FrameFits.Statement .resetNLow := by
  intro _ f hf
  exact absurd hf (by simp [telegramFrame, requestOf, plantFrame])

theorem FrameFits.resetNRelease : FrameFits.Statement .resetNRelease := by
  intro _ f hf
  exact absurd hf (by simp [telegramFrame, requestOf, plantFrame])

end Sys2Proof.Laws
end

