-- ==== Sys2Proof/Laws/Sent.lean ====
section
/-! SUPPORT. What emission and alerts can do to the frames that are to leave: one with room joins at the end, and none is lost
or moved. -/

namespace Sys2Proof.Machine

/-- A telegram with room joins the frames that are to leave at their end (R157, R159). -/
theorem State.emit_leaving {s : State} (h : s.ringKept) (room : s.emitQueue.length < 32) (cls dst : Nat)
    (p : List Byte) : (s.emit cls dst p).leaving = s.leaving ++ [Frame.make cls dst (s.station.getD 0) p] := by
  have hr : s.emitRoom = true := by simp [State.emitRoom, Config.emitSize, room]
  simp only [State.emit, hr, if_true, State.kick, State.leaving]
  cases ho : s.ringOut with
  | none =>
    obtain ⟨hf, he⟩ := h ho
    simp [State.arbitrate, hf, he]
  | some x => simp

/-- A telegram to a full queue leaves the frames that are to leave as they are (R157). -/
theorem State.emit_leaving_full {s : State} (full : 32 ≤ s.emitQueue.length) (cls dst : Nat) (p : List Byte) :
    (s.emit cls dst p).leaving = s.leaving := by
  have hr : s.emitRoom = false := decide_eq_false (Nat.not_lt.mpr full)
  simp [State.emit, hr, State.leaving, State.setFlag]

/-- Emission leaves ring-out idle only with both queues empty (R159). -/
theorem State.emit_ringKept {s : State} (h : s.ringKept) (cls dst : Nat) (p : List Byte) : (s.emit cls dst p).ringKept := by
  intro ho
  by_cases hr : s.emitRoom = true
  · cases hs : s.ringOut with
    | none =>
      obtain ⟨hf, he⟩ := h hs
      simp [State.emit, hr, State.kick, State.arbitrate, hs, hf, he] at ho
    | some x => simp [State.emit, hr, State.kick, hs] at ho
  · have hr : s.emitRoom = false := by simpa using hr
    simp only [State.emit, hr] at ho ⊢
    exact h ho

/-- Raising an alert adds at most one frame, an ALERT telegram, to those that are to leave, at their end (R168). -/
theorem State.raise_leaving {s : State} (h : s.ringKept) (a : Alert) :
    ∃ more, (s.raise a).leaving = s.leaving ++ more ∧ more.length ≤ 1 ∧ ∀ f ∈ more, f.cls = clsAlert := by
  unfold State.raise
  split
  · exact ⟨[], by simp⟩
  · dsimp only
    split
    · rcases Nat.lt_or_ge s.emitQueue.length 32 with room | full
      · refine ⟨[_], State.emit_leaving (s := s.setFlag a) h room _ _ _, by simp, ?_⟩
        simp [Frame.make]
      · exact ⟨[], by rw [State.emit_leaving_full (s := s.setFlag a) full]; simp [State.leaving, State.setFlag], by simp⟩
    · exact ⟨[], by simp [State.leaving, State.setFlag]⟩

end Sys2Proof.Machine
end

