-- ==== Sys2Proof/Tests/Slice0.lean ====
section
/-! SUPPORT. Tests: the operands WellFormed refuses, the manual's own figures, and a state that meets the hypotheses of each
statement. Expected results come from the section of spec/ that a test names, or are worked by hand from its rules. -/

namespace Sys2Proof.Tests

open Sys2Proof.Machine

set_option Elab.async false

/-! ## A small part -/

/-- Addresses of the telegrams below: part 10, server 1, radio bridge 20, pick station 30, rack station 11. -/
def env : Envelope := { dst := 10, src := 1, number := 5 }
def toAll : Envelope := { dst := 255, src := 1, number := 5 }
def rack : Hop := { dst := 255, src := 11 }
def bridge : Hop := { dst := 10, src := 20 }
def pickStation : Hop := { dst := 10, src := 30 }
def line : Hop := { dst := 255, src := 2 }

/-- A SIGNALLED slot of rack station 11 on route 0, stop 0. -/
def signalled (position fullBins onOrder : Nat) : Slot :=
  { config :=
      { inUse := true, rackStation := 11, position := position, partTag := 7, route := 0, stop := 0, bins := 3,
        pieces := 24, pullMode := .signalled, lineStation := 0, modelMask := 0, usage := 2, share := 96,
        reorderPoint := 0, margin := 1200 },
    onHand := fullBins * 24, fullBins := fullBins, onOrder := onOrder, shortFlag := false, lostOrder := false,
    notTaken := false, lamp := .ordered }

/-- A full COUNTED slot of line station 6 and model 3 that one vehicle leaves one piece above its reorder point. -/
def counted : Slot :=
  { config :=
      { inUse := true, rackStation := 11, position := 9, partTag := 9, route := 0, stop := 1, bins := 3, pieces := 24,
        pullMode := .counted, lineStation := 6, modelMask := 8, usage := 4, share := 256, reorderPoint := 67, margin := 0 },
    onHand := 72, fullBins := 3, onOrder := 0, shortFlag := false, lostOrder := false, notTaken := false, lamp := .off }

/-- A FIXED route with two stops. -/
def routeConfig : RouteConfig :=
  { timing := .fixed, period := 3000, cutoffLead := 600, depth := 1, binLimit := 4, policy := .earliest,
    pickStation := 30, confirmCode := 2, silenceLimit := 600, stopCount := 2 }

/-- An order of slot 1. -/
def order (id due created : Nat) : Order :=
  { id := id, creation := id, slot := 1, due := due, urgent := false, origin := .pull, created := created }

/-- An entry of slot 1. -/
def entry (number stop : Nat) (state : EntryState) : Entry :=
  { orderId := 40 + number, created := 5, creation := number, slot := 1, stop := stop, due := 9000, urgent := false,
    late := false, number := some number, state := state }

/-- A waiting tour. -/
def waitingTour (state : TourState) (pick : Option PickState) (entries : List Entry) : Tour :=
  { number := 1, state := state, plannedDeparture := 3000, held := false, slips := 0, pickState := pick,
    entries := entries, currentStop := none, plan := none, window := none, limit := none, resumeCount := 0 }

/-- A RUNNING tour at stop 0. -/
def runningTour (entries : List Entry) : Tour :=
  { number := 4, state := .running, plannedDeparture := 900, held := false, slips := 0, pickState := none,
    entries := entries, currentStop := some 0, plan := none, window := some 600, limit := some 6000, resumeCount := 0 }

/-- A route with a board. -/
def routeWith (waiting : List Tour) (running : Option Tour) : Route :=
  { config := some routeConfig,
    stops := modifyAt (modifyAt (Vector.replicate 24 { offset := 0, marker := none }) 0
        fun _ => { offset := 100, marker := some 7 }) 1 fun _ => { offset := 200, marker := some 8 },
    enabled := true, count := 600, nextTour := 5, waiting := waiting, running := running }

/-- What TU holds with a binding. -/
def unitWith (binding : Binding) (confirm silence : Option Nat) : TrainUnit :=
  { binding := binding, offerNumber := 6, confirmTimer := confirm, silenceTimer := silence }

/-- A commissioned part in a mode, with one route, its train and a backlog. -/
def part (mode : Mode) (route : Route) (unit : TrainUnit) (backlog : List Order) : State :=
  { State.reset with
    mode := mode, station := some 10, server := some 1, pt := 1000000,
    lineConfig := { pacingStation := 5, defaultTakt := 600, radioBridge := 20 }, backlog := backlog,
    nextOrderId := 301, creationCount := 9,
    slots := modifyAt (modifyAt (modifyAt (modifyAt State.reset.slots 0 fun _ => signalled 1 3 0) 1
      fun _ => signalled 2 0 3) 2 fun _ => counted) 511 fun _ => signalled 254 1 0,
    routes := modifyAt State.reset.routes 0 fun _ => route,
    trains := modifyAt State.reset.trains 0 fun _ => unit }

/-- The part in SETUP with nothing on its boards. -/
def idle : State := part .setup (routeWith [] none) (unitWith .unbound none none) []

/-- The part in RUN with a tour on tour with train 33: entry 1 waits at stop 0, entry 2 is for stop 1, entry 3 was presumed. -/
def touring : State :=
  part .run (routeWith [] (some (runningTour [entry 1 0 .atStop, entry 2 1 .loaded, entry 3 0 .presumed])))
    (unitWith (.bound 33 12 .onTour) (some 1) (some 1)) []

/-- The part in RUN with a frozen head and a ready train. -/
def ready (pick : PickState) : State :=
  part .run (routeWith [waitingTour .frozen (some pick) [entry 1 0 .waiting]] none) (unitWith (.bound 33 12 .ready) none none) []

/-- A live record of route 0's tour 2, kept from train 33. -/
def kept : Record :=
  { route := 0, tour := 2, train := 33, cause := .silent, time := 7, faultStop := 1, stops := [], window := none,
    limit := none, resumeCount := 0,
    pending := [{ number := 1, orderId := 9, creation := 3, created := 2, slot := 1, stop := 1, due := 50, urgent := false,
                  late := true }] }

/-- A frame of a class no block takes. -/
def stray : Frame := Frame.make 200 255 9 [1]

/-! ## The operands WellFormed refuses -/

theorem test_byte_of_256 : isByte 256 = false := by decide
theorem test_pair_of_65536 : isPair 65536 = false := by decide
theorem test_quad_of_2_to_the_32 : isQuad 4294967296 = false := by decide
theorem test_serial_of_2_to_the_48 : isSerial 281474976710656 = false := by decide
theorem test_source_255 : isSource 255 = false := by decide
theorem test_timer_of_route_8 : (Instr.cutoffReached 8).wellFormed = false := by decide
theorem test_listed_kind_is_not_unknown : (Instr.unknownKindRequest env 17).wellFormed = false := by decide
theorem test_hop_to_256 : Hop.wellFormed { dst := 256, src := 0 } = false := by decide
theorem test_envelope_number_256 : Envelope.wellFormed { env with number := 256 } = false := by decide
theorem test_slot_record_share_65536 :
    SlotRecord.wellFormed
      { inUse := 1, rackStation := 1, position := 1, partTag := 0, route := 0, stop := 0, bins := 1, pieces := 1,
        pullMode := 0, lineStation := 0, modelMask := 0, usage := 1, share := 65536, reorderPoint := 0, margin := 0 }
      = false := by decide
theorem test_route_record_depth_256 :
    RouteRecord.wellFormed
      { timingMode := 0, period := 1, cutoffLead := 0, depth := 256, binLimit := 1, policy := 0, pickStation := 1,
        confirmCode := 0, silenceLimit := 0, stopCount := 0 } = false := by decide

/-! ## The manual's figures -/

/-- R149: the check value of the nine bytes 123456789 is 29B1. -/
theorem test_check_value : checkValue ((List.range 9).map fun k => byte (49 + k)) = 0x29B1 := by decide +kernel

/-- Section 2.6.2: 48 pieces at 1,000,000. -/
theorem test_first_press : dating 48 2 96 1200 600 1000000 = { due := 1037200, urgent := false } := by decide

/-- Section 2.6.5: an empty rack is due at once. -/
theorem test_empty_rack : dating 0 2 96 1200 600 1000000 = { due := 1000000, urgent := true } := by decide

/-- The orders of a backlog as name, due time and URGENT. -/
def dues (s : State) : List (Nat × Nat × Bool) := s.backlog.map fun o => (o.id, o.due, o.urgent)

/-- What a command leaves, by a view of the next state. -/
def after {α : Type} (c : Instr) (s : State) (view : State → α) : Option α :=
  match exec c s with
  | .next t => some (view t)
  | _ => none

/-- Section 2.6.2 by command: the press on a full slot raises one order due 1,037,200. -/
theorem test_bin_empty : after (.binEmpty rack 1) idle dues = some [(301, 1037200, false)] := by decide +kernel

/-- Section 2.6.5 by command: BIN_COUNT(0) raises three orders, each dated one bin on. -/
theorem test_bin_count :
    after (.binCount rack 1 0) idle dues
      = some [(301, 1000000, true), (302, 1018000, false), (303, 1037200, false)] := by decide +kernel

/-- R13 and R7: a vehicle takes 4 of 72 pieces of the slot it consumes, and 68 pieces still fill three bins. -/
theorem test_consume :
    (idle.slot 2).consumedBy 6 3 = true ∧ (idle.slot 2).consumedBy 6 2 = false ∧
    (let sl := (idle.consume 2).slot 2
     (sl.onHand, sl.fullBins, sl.onOrder)) = (68, 3, 0) := by decide +kernel

/-- R100: a takt of 0 is taken as 1. -/
theorem test_takt_of_0 : after (.lineRunning line 0) idle State.takt = some 1 := by decide +kernel

/-- R119: the pass of marker 8 presumes the entry at stop 0 and brings the one of stop 1 to AT_STOP. -/
theorem test_pass :
    after (.pass bridge 0 33 8) touring (fun t => (t.route 0).running.map fun x => x.entries.map Entry.state)
      = some (some [.presumed, .atStop, .presumed]) := by decide +kernel

/-- The payloads that are to leave after a command. -/
def sent (t : State) : List (List Byte) := t.leaving.map Frame.payload

/-- R65 and Table 11-4: the one entry of a frozen head in a PICK_LIST, then LIST_READY; its slot is empty and becomes LATE by the
new departure, so its lamp is derived SHORT last (R20, R158). -/
theorem test_pick_list :
    after (.cutoffReached 0)
        (part .run (routeWith [waitingTour .planned none [entry 1 0 .waiting]] none) (unitWith .unbound none none) []) sent
      = some [[1, 0, 0, 1, 1, 1, 0, 1, 0, 0, 0, 7, 0], [2, 0, 0, 1, 1], [3, 2]] := by decide +kernel

/-- R118 and Table 11-3: two stops with their markers, and the one entry at stop 0; then the lamp of its slot, which is empty
and becomes LATE. -/
theorem test_route_order :
    after (.departureDue 0) (ready .picked) sent
      = some [[2, 0, 33, 0, 1, 2, 1, 0, 7, 1, 1, 8, 0], [3, 2]] := by decide +kernel

/-- R121 and Table 11-3: the entry for stop 1, with its slot's station, position and tag. -/
theorem test_stop_list :
    after (.pass bridge 0 33 8) touring sent = some [[3, 0, 33, 0, 4, 1, 1, 2, 11, 2, 0, 0, 0, 7]] := by decide +kernel

/-- R164 and Table 11-5: IDENTIFY answers serial, station, mode, TIME_UNSET and the reset-cause record. -/
theorem test_identify :
    after (.identify env) idle (fun t => t.ringOut.map fun x => (x.frame.dst, x.frame.payload))
      = some (some (1, [1, 5, 0, 0, 0, 0, 0, 0, 0, 10, 1, 1, 1, 0])) := by decide +kernel

/-- R159 and R160: COMMAND_RESET does nothing while the reply to the RESTART still waits in the emit queue. -/
theorem test_restart_waits_for_its_reply :
    let s : State := { idle with ringOut := some { frame := stray, own := false }, emitQueue := [Frame.make clsMaintReply 1 10 [16, 5, 0]] }
    after .commandReset s State.mode = some .setup := by decide +kernel

/-- R47 and R70: a PLANNED head whose count falls past its cutoff to 0 is FROZEN as it is held. -/
theorem test_due_freezes_head :
    let s := (part .run (routeWith [waitingTour .planned none [entry 1 0 .waiting]] none) (unitWith .unbound none none) []).modRoute 0
      fun ro => { ro with count := 2999 }
    after (.departureDue 0) s (fun t => (t.route 0).waiting.map fun x => (x.state, x.held, x.pickState))
      = some [(.frozen, true, some .ready)] := by decide +kernel

/-- R151 and R173: an IDENTIFY too short for its number is refused with the unit serial at offsets 3 to 8. -/
theorem test_short_identify :
    after (.ringInFrame (Frame.make clsMaintReq 10 1 [1]).bytes) idle
      (fun t => t.ringOut.map fun x => x.frame.payload.drop 2) = some (some [4, 0, 0, 0, 0, 0, 0]) := by decide +kernel

/-- R71 and R117, by hand: the frozen head departs and its train leaves. -/
theorem test_departure :
    after (.departureDue 0) (ready .picked) (fun t => ((t.train 0).binding, (t.route 0).count))
      = some (.bound 33 12 .onTour, 3000) := by decide +kernel

/-! ## A state that meets the hypotheses of each statement, in the statements' order -/

/-- Every command answers a next state. -/
theorem answers (c : Instr) (s : State) : ∃ t, exec c s = .next t := by
  cases c <;> exact ⟨_, rfl⟩

/-- A part with nothing to send keeps the ring, and has room. -/
theorem part_quiet (m : Mode) (r : Route) (u : TrainUnit) (b : List Order) :
    (part m r u b).ringKept ∧ (part m r u b).emitQueue = [] := ⟨fun _ => ⟨rfl, rfl⟩, rfl⟩

/-- A property of every member of the slot table holds of every slot. -/
theorem slots_all {p : Slot → Prop} {s : State} (h : ∀ x ∈ s.slots.toList, p x) : ∀ i < 512, p (s.slot i) := by
  intro i hi
  have : s.slot i = s.slots[i] := by simp [State.slot, Vector.getD, hi]
  rw [this]
  exact h _ (by simp)

theorem witness_StepRunsFrontCommand :
    State.pending { State.reset with pending := [.transmissionEnd] } = .transmissionEnd :: [] := rfl

/-- What a tick leaves of a part, before its events, is what the statement on ticks supposes. -/
theorem ticked {s : State} (h : ∀ r < 8, (s.countsTicks r → s.advanced.route r
      = { s.route r with count := (s.route r).count - 1 }) ∧ (¬ s.countsTicks r → s.advanced.route r = s.route r) ∧
      s.advanced.train r = { s.train r with
        binding := match s.mode, (s.train r).binding with
          | .setup, .offered train capacity left => .offered train capacity (left - 1)
          | .run, .offered train capacity left => .offered train capacity (left - 1)
          | _, b => b,
        confirmTimer := (s.train r).confirmTimer.map (· - 1), silenceTimer := (s.train r).silenceTimer.map (· - 1) }) :
    s.tickedTo s.advanced := ⟨rfl, h, rfl, rfl⟩

/-- A part with no offer, timer or store operation reaches no mark by a tick but, in RUN, a count's, and PT's largest value. -/
theorem quiet_reaches {s : State} {c : Instr} (hm : s.mode = .setup) (hs : s.advanced.storeOp = none)
    (ht : ∀ r < 8, (s.advanced.train r).binding = .unbound ∧ (s.advanced.train r).confirmTimer = none ∧
      (s.advanced.train r).silenceTimer = none) (h : s.tickReaches s.advanced c) :
    c = .ptSaturation ∧ s.pt < 4294967295 ∧ s.advanced.pt = 4294967295 := by
  cases c <;> simp only [State.tickReaches, State.countsTicks, hm, hs] at h
  case offerTimerExpiry r => simp [ht r h.1] at h
  case confirmationTimerExpiry r => simp [ht r h.1] at h
  case silenceTimerExpiry r => simp [ht r h.1] at h
  all_goals simp_all

/-- A tick that reaches no mark, one that reaches PT's largest value alone, and a part held in reset. -/
theorem witness_TicksPassTime :
    let last : State := { idle with pt := 4294967294 }
    (State.pending { idle with resetLow := true } = [] ∧ State.resetLow { idle with resetLow := true } = true) ∧
    (idle.pending = [] ∧ idle.resetLow = false ∧ idle.pt ≤ 4294967295 ∧ idle.tickedTo idle.advanced ∧
      ∀ c, ¬ idle.tickReaches idle.advanced c) ∧
    (last.pending = [] ∧ last.resetLow = false ∧ last.pt ≤ 4294967295 ∧ last.tickedTo last.advanced ∧
      last.tickReaches last.advanced .ptSaturation ∧ ∀ d, last.tickReaches last.advanced d → d = .ptSaturation) := by
  refine ⟨⟨rfl, rfl⟩, ⟨rfl, rfl, by decide +kernel, ticked ?_, fun c h => ?_⟩,
    rfl, rfl, by decide +kernel, ticked ?_, ⟨by decide +kernel, by decide +kernel⟩, fun d h => ?_⟩
  · unfold State.countsTicks
    decide +kernel
  · have := quiet_reaches rfl rfl (by decide +kernel) h
    exact absurd this.2.2 (by decide +kernel)
  · unfold State.countsTicks
    decide +kernel
  · exact (quiet_reaches rfl rfl (by decide +kernel) h).1

theorem witness_SerialAndQueueAreKept : ∃ t, exec (.binEmpty rack 1) idle = .next t := answers _ _

theorem witness_TelegramFramesDecode :
    (Instr.binCount rack 255 0).wellFormed = true ∧ (telegramFrame (.binCount rack 255 0)).isSome := by decide

theorem witness_FramesOfNoBlockPassOrAreDiscarded :
    let busy : State := { idle with ringOut := some { frame := stray, own := false }, forwardQueue := List.replicate 15 stray }
    let full : State := { idle with forwardQueue := List.replicate 16 stray }
    (idle.resetLow = false ∧ 120 < (byte 121).toNat ∧ ([] : List Byte).length ≠ (byte 0).toNat + 2 ∧
      ([byte 1, byte 0, byte 0] : List Byte) = [byte 1] ++ [byte 0, byte 0] ∧
      checkValue ([byte 200, byte 255, byte 9, byte 1] ++ [byte 1])
        ≠ BitVec.ofNat 16 ((byte 0).toNat * 256 + (byte 0).toNat)) ∧
    (255 < 256 ∧ ([1] : List Byte).length ≤ 120 ∧
      200 ∉ [clsPull, clsVehicle, clsLine, clsTrainUp, clsPick, clsMaintReq, clsMaintReply]) ∧
    (busy.attends ∧ busy.station ≠ some 9 ∧ busy.ringOut.isSome ∧ busy.forwardQueue.length < 16) ∧
    (idle.attends ∧ idle.ringOut = none ∧ idle.forwardQueue = [] ∧ idle.emitQueue = []) ∧
    (full.attends ∧ 16 ≤ full.forwardQueue.length) := by
  unfold State.attends State.settled
  decide +kernel

/-- Queues of 31 and 32 telegrams, an idle ring-out, and alert 0 set, clear with its enable on, and clear with it off. -/
theorem witness_EmissionAndAlertsReachTheRing :
    let busy : State := { idle with ringOut := some { frame := stray, own := false }, emitQueue := List.replicate 31 stray }
    let full : State := { idle with emitQueue := List.replicate 32 stray }
    let on : State := { idle with mask := 1 }
    (busy.emitQueue.length < 32 ∧ busy.ringOut.isSome) ∧
    (idle.ringOut = none ∧ idle.forwardQueue = [] ∧ idle.emitQueue = []) ∧ 32 ≤ full.emitQueue.length ∧
    State.flags { idle with flags := 1 } = 1 ∧ (1#16).getLsbD Alert.backlogFull.bit = true ∧
    (on.flags.getLsbD Alert.backlogFull.bit = false ∧ on.mask.getLsbD Alert.backlogFull.bit = true ∧
      on.mode ≠ .uncommissioned) ∧ idle.mask.getLsbD Alert.backlogFull.bit = false := by decide +kernel

theorem witness_ArbiterChoosesNextFrame :
    let sent : Sending := { frame := stray, own := true }
    let with' := fun (fs es : List Frame) (n : Nat) =>
      ({ idle with ringOut := some sent, forwardQueue := fs, emitQueue := es, burst := n } : State)
    (sent.own && sent.frame.answersRestart) = false ∧
    ((with' [] [] 4).ringOut = some sent ∧ (with' [] [] 4).forwardQueue = [] ∧ (with' [] [] 4).emitQueue = []) ∧
    ((with' [stray] [] 4).forwardQueue = stray :: [] ∧ (with' [stray] [] 4).emitQueue = []) ∧
    ((with' [] [stray] 4).forwardQueue = [] ∧ (with' [] [stray] 4).emitQueue = stray :: []) ∧
    ((with' [stray] [stray] 3).forwardQueue = stray :: [] ∧ (with' [stray] [stray] 3).emitQueue = stray :: [] ∧
      (with' [stray] [stray] 3).burst < 4) ∧
    (with' [stray] [stray] 4).burst = 4 := by decide +kernel

theorem witness_UnheardTelegramsPass :
    (let low : State := { idle with resetLow := true }
     low.resetLow = true ∧ telegramFrame (.trainReturn bridge 0 33) = some (Frame.make clsTrainUp 10 20 [6, 0, 33])) ∧
    (State.reset.resetLow = false ∧ State.reset.mode = .uncommissioned ∧ State.reset.settled ∧
      State.reset.formerStation ≠ some 20 ∧
      plantFrame (.trainReturn bridge 0 33) = some (Frame.make clsTrainUp 10 20 [6, 0, 33])) := by
  unfold State.settled
  decide +kernel

theorem witness_PlantTelegramsKeepSettings :
    plantFrame (.binEmpty rack 1) = some (Frame.make clsPull 255 11 [1, 1]) ∧
    ∃ t, exec (.binEmpty rack 1) idle = .next t :=
  ⟨by decide +kernel, answers _ _⟩

/-- The ends of every range, a reach of one tick more than the margin, and a reach equal to it. -/
theorem witness_DatingFollowsFiveStages :
    (65535 ≤ 65535 ∧ 1 ≤ 255 ∧ 255 ≤ 255 ∧ 1 ≤ 256 ∧ 6000 ≤ 6000 ∧ 4294967295 ≤ 4294967295) ∧
    1199 < reachTicks 2 1 256 600 ∧ reachTicks 2 1 256 600 ≤ 1200 ∧ reachStock 1 < reachDemand 255 256 ∧
    reachTicks 65535 1 1 6000 = 24570000 := by decide

theorem witness_MoreStockIsNeverDueEarlier : 0 ≤ 65535 ∧ 1000000 ≤ 4294967295 ∧
    (dating 48 2 96 1200 600 1000000).urgent = false := by decide

/-- The part in RUN with an empty PLANNED tour, which takes an order of slot 0. -/
def placing : State :=
  part .run (routeWith [waitingTour .planned none []] none) (unitWith .unbound none none) []

/-- A press in SETUP, on a COUNTED slot too, beside 63 and 64 orders; in RUN with a tour to take the order and with none; and a
repeated press. -/
theorem witness_PressRaisesOrder :
    let s := fun n => part .setup (routeWith [] none) (unitWith .unbound none none) (List.replicate n (order 1 9 9))
    (idle.hearsRack rack 1 0 ∧ 1 ≤ (idle.slot 0).config.pieces ∧ (idle.slot 0).config.pullMode = .signalled ∧
      (idle.slot 0).fullBins - 1 + (idle.slot 0).onOrder < (idle.slot 0).config.bins ∧ idle.findsNoTour 0) ∧
    (idle.hearsRack rack 9 2 ∧ (idle.slot 2).config.pullMode = .counted ∧
      (idle.slot 2).fullBins - 1 + (idle.slot 2).onOrder < (idle.slot 2).config.bins) ∧
    ((s 63).backlog.length < 64 ∧ (s 64).backlog.length = 64 ∧ (s 64).findsNoTour 0) ∧
    (placing.hearsRack rack 1 0 ∧ placing.mode = .run ∧ (∀ due, placing.policyPicks 0 due 0) ∧
      (placing.route 0).waiting[0]? = some (waitingTour .planned none [])) ∧
    touring.findsNoTour 0 ∧
    (idle.hearsRack rack 2 1 ∧ (idle.slot 1).fullBins = 0 ∧ (idle.slot 1).onHand = 0 ∧
      (idle.slot 1).onOrder = (idle.slot 1).config.bins) := by
  unfold State.hearsRack State.attends State.settled
  refine ⟨⟨by decide +kernel, by decide +kernel, by decide +kernel, by decide +kernel, .inl rfl⟩, by decide +kernel,
    ⟨by decide +kernel, by decide +kernel, .inl rfl⟩, ⟨by decide +kernel, by decide +kernel, fun due => ?_,
    by decide +kernel⟩, .inr ⟨rfl, fun k h => ?_⟩, by decide +kernel⟩
  · exact ⟨⟨waitingTour .planned none [], by decide +kernel⟩, .inl ⟨by decide +kernel, by simp⟩⟩
  · obtain ⟨t, ht, -⟩ := h
    have : (touring.route (touring.slot 0).config.route).waiting = [] := by decide +kernel
    simp [this] at ht

/-- Three orders are wanted beside 61 orders and beside 62. -/
theorem witness_BinCountFillsRack :
    let s := fun n => part .setup (routeWith [] none) (unitWith .unbound none none) (List.replicate n (order 1 9 9))
    (s 61).hearsRack rack 1 0 ∧ (s 61).findsNoTour 0 ∧ (s 61).backlog.length ≤ 64 ∧
    ((s 61).slot 0).onOrder = 0 ∧ ((s 61).slot 0).config.bins = 3 ∧ 1 ≤ ((s 61).slot 0).config.pieces ∧
    (s 62).hearsRack rack 1 0 ∧ min (3 - 0 - 0) (64 - (s 62).backlog.length) < 3 := by
  unfold State.hearsRack State.attends State.settled State.findsNoTour
  refine ⟨by decide +kernel, .inl rfl, ?_, ?_, ?_, ?_, ?_, ?_⟩ <;> decide +kernel

/-- The only waiting tour of a part stands first. -/
theorem only_tour {s : State} {r k : Nat} {w tour : Tour} (hw : (s.route r).waiting = [w])
    (h : (s.route r).waiting[k]? = some tour) : k = 0 ∧ tour = w := by
  rw [hw] at h
  rcases k with _ | k
  · simp_all
  · simp at h

/-- A SIGNALLED and a COUNTED slot with no order; a slot whose one order stands on a FROZEN tour; and beside an entry of a PLANNED
tour created at 5, a backlog order created at 6, which is the newest, and one created at 4, which leaves the entry the newest. -/
theorem witness_CancelWithdrawsNewestOrder :
    let w := waitingTour .planned none [entry 1 0 .waiting]
    let s := fun created => part .run (routeWith [w] none) (unitWith .unbound none none) [order 1 8 3, order 2 9 created]
    (idle.hearsRack rack 1 0 ∧ idle.hearsRack rack 9 2 ∧ idle.backlog = [] ∧ (idle.route 0).waiting = []) ∧
    ((ready .ready).hearsRack rack 2 1 ∧ (ready .ready).backlog = [] ∧ ∀ (k : Nat) (tour : Tour),
      ((ready .ready).route ((ready .ready).slot 1).config.route).waiting[k]? = some tour → tour.state ≠ .planned) ∧
    ((s 6).hearsRack rack 2 1 ∧ order 2 9 6 ∈ (s 6).backlog ∧ (order 2 9 6).slot = 1 ∧
      (∀ p ∈ (s 6).backlog, p.slot = 1 → p ≠ order 2 9 6 → p.created < 6) ∧
      ∀ (k : Nat) (tour : Tour) (e : Entry), ((s 6).route ((s 6).slot 1).config.route).waiting[k]? = some tour →
        e ∈ tour.entries → e.created < 6) ∧
    ((s 4).hearsRack rack 2 1 ∧ ((s 4).route ((s 4).slot 1).config.route).waiting[0]? = some w ∧ w.state = .planned ∧
      entry 1 0 .waiting ∈ w.entries ∧ (entry 1 0 .waiting).slot = 1 ∧ (entry 1 0 .waiting).state = .waiting ∧
      (∀ p ∈ (s 4).backlog, p.slot = 1 → p.created < 5) ∧
      ∀ (j : Nat) (tour : Tour) (x : Entry), ((s 4).route ((s 4).slot 1).config.route).waiting[j]? = some tour →
        x ∈ tour.entries → j = 0 ∧ x = entry 1 0 .waiting) := by
  unfold State.hearsRack State.attends State.settled
  refine ⟨by decide +kernel, ⟨by decide +kernel, by decide +kernel, fun k tour h => ?_⟩,
    ⟨by decide +kernel, by decide +kernel, by decide +kernel, by decide +kernel, fun k tour e h he => ?_⟩,
    by decide +kernel, by decide +kernel, by decide +kernel, by decide +kernel, by decide +kernel, by decide +kernel,
    by decide +kernel, fun j tour x h hx => ?_⟩
  · obtain ⟨-, rfl⟩ := only_tour (w := waitingTour .frozen (some .ready) [entry 1 0 .waiting]) (by decide +kernel) h
    decide
  · obtain ⟨-, rfl⟩ := only_tour (w := waitingTour .planned none [entry 1 0 .waiting]) (by decide +kernel) h
    obtain rfl : e = entry 1 0 .waiting := by simpa [waitingTour] using he
    decide
  · obtain ⟨rfl, rfl⟩ := only_tour (w := waitingTour .planned none [entry 1 0 .waiting]) (by decide +kernel) h
    exact ⟨rfl, by simpa [waitingTour] using hx⟩

theorem witness_VehicleEchoIsIgnored :
    let s : State := { idle with echo := modifyAt idle.echo 63 fun _ => some 0 }
    s.hearsLine line ∧ 63 < 64 ∧ 15 < 16 ∧ s.echo[63]? = some (some 0) := by
  unfold State.hearsLine State.attends State.settled
  decide +kernel

/-- The part with slot 2 at a reorder point, and a TAKT route in RUN. -/
def reordering (point : Nat) : State :=
  { idle with slots := modifyAt idle.slots 2 fun sl => { sl with config := { sl.config with reorderPoint := point } } }
def pacing : State :=
  (part .run (routeWith [] none) (unitWith .unbound none none) []).modRoute 0
    fun ro => { ro with config := some { routeConfig with timing := .takt } }

/-- A vehicle that leaves slot 2 one piece above its reorder point and one that leaves it at it, so that one order is raised: it
finds no tour, room for none in a backlog of 64, or a PLANNED tour in RUN; one at the pacing station that brings the count of a
TAKT route to no mark; and one there that brings it to the cutoff. -/
theorem witness_VehicleConsumesCountedSlots :
    let full : State := { reordering 68 with backlog := List.replicate 64 (order 1 9 9) }
    let placed : State := { placing with slots := (reordering 68).slots }
    let near := pacing.modRoute 0 fun ro => { ro with count := 601 }
    (idle.hearsLine line ∧ 6 < 64 ∧ 3 < 16 ∧ idle.echo[6]? ≠ some (some 0) ∧ 6 ≠ idle.lineConfig.pacingStation ∧
      (idle.slot 2).consumedBy 6 3 = true) ∧
    (∀ i < 512, (idle.slot i).consumedBy 6 3 = true →
      (idle.slot i).config.reorderPoint
        < (idle.slot i).onHand - (idle.slot i).config.usage + (idle.slot i).onOrder * (idle.slot i).config.pieces) ∧
    ((reordering 68).hearsLine line ∧ ((reordering 68).slot 2).consumedBy 6 3 = true ∧ (reordering 68).findsNoTour 2 ∧
      (∀ i < 512, i ≠ 2 → ¬ ((reordering 68).slot i).consumedBy 6 3 = true) ∧
      72 - 4 + (0 + 0) * 24 ≤ ((reordering 68).slot 2).config.reorderPoint ∧
      ¬ 72 - 4 + (0 + 1) * 24 ≤ ((reordering 68).slot 2).config.reorderPoint) ∧
    (full.hearsLine line ∧ full.findsNoTour 2 ∧ full.slots = (reordering 68).slots ∧ full.backlog.length = 64) ∧
    (placed.hearsLine line ∧ placed.slots = (reordering 68).slots ∧ placed.mode = .run ∧ placed.echo[6]? ≠ some (some 0) ∧
      6 ≠ placed.lineConfig.pacingStation ∧ (∀ due, placed.policyPicks 2 due 0) ∧
      (placed.route (placed.slot 2).config.route).waiting[0]? = some (waitingTour .planned none [])) ∧
    (pacing.hearsLine line ∧ pacing.echo[5]? ≠ some (some 0) ∧ 5 = pacing.lineConfig.pacingStation ∧
      (∀ i < 512, ¬ (pacing.slot i).consumedBy 5 3 = true) ∧
      (∀ r < 8, (pacing.timerRuns r = true ∧ (pacing.route r).cfg.timing = .takt) ↔ r = 0) ∧
      1 < (pacing.route 0).count ∧ (pacing.route 0).count ≠ (pacing.route 0).cfg.cutoffLead + 1) ∧
    (near.hearsLine line ∧ near.slots = pacing.slots ∧ near.timerRuns 0 = true ∧
      (near.route 0).count = (near.route 0).cfg.cutoffLead + 1) := by
  refine ⟨?_, slots_all (p := fun sl => sl.consumedBy 6 3 = true →
      sl.config.reorderPoint < sl.onHand - sl.config.usage + sl.onOrder * sl.config.pieces) (by decide +kernel),
    ⟨?_, by decide +kernel, .inl rfl, by decide +kernel, by decide +kernel, by decide +kernel⟩,
    ⟨?_, .inl rfl, rfl, by decide +kernel⟩,
    ⟨?_, rfl, rfl, by decide +kernel, by decide +kernel,
      fun due => ⟨⟨waitingTour .planned none [], by decide +kernel⟩, .inl ⟨by decide +kernel, by simp⟩⟩, by decide +kernel⟩,
    ⟨?_, by decide +kernel, by decide +kernel,
      slots_all (p := fun sl => ¬ sl.consumedBy 5 3 = true) (by decide +kernel), by decide +kernel⟩,
    ?_, rfl, by decide +kernel, by decide +kernel⟩ <;>
  · unfold State.hearsLine State.attends State.settled
    decide +kernel

theorem witness_LineTelegramsSetLineState :
    let s : State := { idle with lineState := .stopped 0 }
    idle.hearsLine line ∧ idle.lineState = .unknown ∧ s.hearsLine line ∧ s.lineState = .stopped 0 := by
  unfold State.hearsLine State.attends State.settled
  decide +kernel

/-- A stop of one tick, and one of none. -/
theorem witness_RestartShiftsDueTimes :
    let s := fun since => ({ touring with
      lineState := .stopped since, backlog := [order 1 8 6, order 2 9 6], records := Vector.replicate 3 none |>.push (some kept) } : State)
    (s 999999).hearsLine line ∧ (s 999999).lineState = .stopped 999999 ∧ 999999 < (s 999999).pt ∧
    (s 1000000).hearsLine line ∧ (s 1000000).pt ≤ 1000000 := by
  unfold State.hearsLine State.attends State.settled
  decide +kernel

/-- A PLANNED and a FROZEN head at the cutoff and one tick below it, a held head, and no tour. -/
theorem witness_CutoffFreezesHead :
    let s := fun ts => part .run (routeWith ts none) (unitWith .unbound none none) []
    let below := fun ts => (s ts).modRoute 0 fun ro => { ro with count := 599 }
    let planned := waitingTour .planned none [entry 1 0 .waiting]
    let frozen := waitingTour .frozen (some .picking) [entry 1 0 .waiting]
    let held := { frozen with held := true, slips := 1 }
    ((s [planned]).timerRuns 0 = true ∧ 0 < ((s [planned]).route 0).cfg.cutoffLead ∧
      ((s [planned]).route 0).cfg.cutoffLead = ((s [planned]).route 0).count ∧
      ((s [planned]).route 0).waiting = planned :: [] ∧ planned.state = .planned ∧ planned.held = false ∧
      (s [planned]).ringKept ∧ (s [planned]).emitQueue = []) ∧
    ((below [frozen]).timerRuns 0 = true ∧ ((below [frozen]).route 0).count < ((below [frozen]).route 0).cfg.cutoffLead ∧
      ((below [frozen]).route 0).waiting = frozen :: [] ∧ frozen.state = .frozen ∧ frozen.held = false) ∧
    ((s [held]).timerRuns 0 = true ∧ (s [held]).settled ∧ ((s [held]).route 0).waiting.head? = some held ∧
      held.held = true) ∧
    ((s []).timerRuns 0 = true ∧ (s []).settled ∧ ((s []).route 0).waiting = []) := by
  unfold State.settled
  exact ⟨⟨by decide +kernel, by decide +kernel, by decide +kernel, by decide +kernel, rfl, rfl, part_quiet _ _ _ _⟩,
    by decide +kernel, by decide +kernel, by decide +kernel⟩

/-- A part in RUN whose count stands one above its cutoff, with a head. -/
def nearing (head : Tour) (unit : TrainUnit) : State :=
  (part .run (routeWith [head] none) unit []).modRoute 0 fun ro => { ro with count := 601 }

/-- A FROZEN head that is picked, at its cutoff, and a PLANNED one above it. -/
theorem witness_DepartureDueHoldsHead :
    let head := waitingTour .planned none [entry 1 0 .waiting]
    let s := nearing head (unitWith (.bound 33 12 .ready) none none)
    ((ready .picking).timerRuns 0 = true ∧ (ready .picking).settled ∧
      ((ready .picking).route 0).waiting = waitingTour .frozen (some .picking) [entry 1 0 .waiting] :: [] ∧
      some PickState.picking ≠ some .picked) ∧
    (s.timerRuns 0 = true ∧ s.settled ∧ (s.route 0).waiting = head :: [] ∧ head.held = false ∧
      (s.route 0).cfg.cutoffLead < (s.route 0).count ∧ head.entries ≠ []) := by
  unfold State.settled
  decide +kernel

/-- A picked FROZEN head at its cutoff, and an empty PLANNED one above it. -/
theorem witness_DepartureDueDepartsHead :
    let s := ready .picked
    let head := waitingTour .planned none []
    let n := nearing head (unitWith (.bound 33 12 .ready) none none)
    (s.timerRuns 0 = true ∧ (s.route 0).cfg.cutoffLead < (s.route 0).cfg.period ∧
      (s.route 0).waiting = waitingTour .frozen (some .picked) [entry 1 0 .waiting] :: [] ∧
      (s.train 0).binding = .bound 33 12 .ready ∧ (s.route 0).running = none ∧
      s.emitQueue.length + 1 + 1 ≤ 32 ∧ (waitingTour .frozen (some .picked) [entry 1 0 .waiting]).plan = none) ∧
    s.ringKept ∧
    (n.timerRuns 0 = true ∧ (n.route 0).waiting = head :: [] ∧ head.state = .planned ∧ head.entries = [] ∧
      head.held = false ∧ (n.route 0).cfg.cutoffLead < (n.route 0).count ∧
      (n.train 0).binding = .bound 33 12 .ready ∧ (n.route 0).running = none) :=
  ⟨by decide +kernel, (part_quiet _ _ _ _).1, by decide +kernel⟩

/-- A held head with a tour behind it: PICKING and PICKED with a ready train, PICKED with an offer, and behind a RUNNING tour. -/
theorem witness_HeldHeadDepartsLate :
    let head := fun p => { waitingTour .frozen (some p) [entry 1 0 .waiting] with held := true, slips := 1 }
    let s := fun p running binding =>
      part .run (routeWith [head p, waitingTour .planned none []] running) (unitWith binding none none) []
    let out := some (runningTour [entry 2 1 .loaded])
    (((s .picking none (.bound 33 12 .ready)).route 0).waiting = head .picking :: [waitingTour .planned none []] ∧
      ((s .picking none (.bound 33 12 .ready)).train 0).binding = .bound 33 12 .ready ∧
      ((s .picking none (.bound 33 12 .ready)).route 0).running = none ∧
      (s .picking none (.bound 33 12 .ready)).hearsPickStation pickStation 0) ∧
    ((s .picked none (.bound 33 12 .ready)).timerRuns 0 = true ∧
      ((s .picked none (.bound 33 12 .ready)).route 0).cfg.cutoffLead
        < ((s .picked none (.bound 33 12 .ready)).route 0).cfg.period) ∧
    ((s .picked none (.offered 33 12 1)).hearsBridge bridge 33 ∧ (s .picked none (.offered 33 12 1)).boundOnlyTo 33 0 ∧
      ((s .picked none (.offered 33 12 1)).train 0).offerNumber = 6) ∧
    ((s .picked out (.bound 33 12 .onTour)).hearsBridge bridge 33 ∧
      (s .picked out (.bound 33 12 .onTour)).boundOnlyTo 33 0 ∧
      ((s .picked out (.bound 33 12 .onTour)).route 0).running.isSome) ∧
    ∀ p running binding, (s p running binding).ringKept ∧ (s p running binding).emitQueue = [] := by
  unfold State.hearsPickStation State.hearsBridge State.boundOnlyTo State.attends State.settled
  refine ⟨?_, ?_, ?_, ?_, fun _ _ _ => part_quiet _ _ _ _⟩ <;> decide +kernel

theorem witness_ConfirmationTimerPresumes :
    ∃ tour, (touring.route 0).running = some tour ∧ (touring.train 0).confirmTimer = some 1 ∧
      tour.currentStop = some ((0 : Nat) : Int) ∧ ∃ e ∈ tour.entries, e.state = .atStop ∧ e.stop = 0 :=
  ⟨runningTour [entry 1 0 .atStop, entry 2 1 .loaded, entry 3 0 .presumed], by decide +kernel⟩

/-- The last record free, none free, and a tour resumed three times. -/
theorem witness_SilenceTimerInterruptsTour :
    let tour := runningTour [entry 1 0 .atStop, entry 2 1 .loaded, entry 3 0 .presumed]
    let s : State := { touring with records := Vector.replicate 3 (some kept) |>.push none }
    (s.settled ∧ (s.route 0).running = some tour ∧ (s.train 0).silenceTimer = some 1 ∧
      (s.train 0).binding = .bound 33 12 .onTour ∧ tour.plan = none ∧ tour.entries.filter Entry.isOpen ≠ [] ∧
      s.record 3 = none ∧ ∀ j < 3, s.record j ≠ none) ∧
    (∀ k < 4, State.record { touring with records := Vector.replicate 4 (some kept) } k ≠ none) ∧
    (Tour.plan { tour with plan := some { stops := [], faultStop := 0 }, resumeCount := 3 }).isSome := by
  unfold State.settled
  decide +kernel

theorem witness_PickReportsMoveHead :
    let head := waitingTour .frozen (some .ready) [entry 1 0 .waiting]
    (ready .ready).hearsPickStation pickStation 0 ∧ ((ready .ready).route 0).waiting = head :: [] ∧
    head.state = .frozen ∧ head.held = false ∧ head.pickState = some .ready ∧ head.number = 1 ∧ head.number ≠ 2 := by
  unfold State.hearsPickStation State.attends State.settled
  decide +kernel

/-- READY with entry 1 and without entry 2, beside no orders and beside 64, and PICKED. -/
theorem witness_PickShortReturnsOrder :
    let full : State := { ready .ready with backlog := List.replicate 64 (order 1 9 9) }
    ((ready .ready).hearsPickStation pickStation 0 ∧ (ready .ready).backlog.length < 64 ∧
      ((ready .ready).route 0).waiting = [waitingTour .frozen (some .ready) [entry 1 0 .waiting]] ∧
      (entry 1 0 .waiting).number = some 1 ∧ (entry 1 0 .waiting).number ≠ some 2) ∧
    (full.hearsPickStation pickStation 0 ∧ full.backlog.length = 64 ∧ (entry 1 0 .waiting).slot < 512) ∧
    (ready .picked).hearsPickStation pickStation 0 ∧
    ((ready .picked).route 0).waiting = [waitingTour .frozen (some .picked) [entry 1 0 .waiting]] := by
  unfold State.hearsPickStation State.attends State.settled
  refine ⟨?_, ?_, ?_, ?_⟩ <;> decide +kernel

/-- A route not enabled, a route of another train, and a route whose tour holds one entry for a train that offers 1. -/
theorem witness_CheckInMakesOffer :
    (idle.hearsBridge bridge 254 ∧ idle.boundNowhere 254 ∧ (idle.route 1).enabled = false ∧
      (idle.route 0).enabled = true ∧ (idle.train 0).binding = .unbound) ∧
    (touring.hearsBridge bridge 1 ∧ touring.boundNowhere 1 ∧ (touring.train 0).binding = .bound 33 12 .onTour) ∧
    (let s := part .run (routeWith [waitingTour .planned none [entry 1 0 .waiting]] none) (unitWith .unbound none none) []
     s.hearsBridge bridge 33 ∧ s.boundNowhere 33 ∧ (s.train 0).binding = .unbound ∧
      ∀ x ∈ (s.route 0).waiting, x.entries.length ≤ 1) ∧
    (((part .run (routeWith [] none) (unitWith (.offered 33 12 1) none none) []).train 0).binding = .offered 33 12 1 ∧
      (idle.train 0).binding.trainId = none ∧ (touring.train 0).binding.boundTrain.isSome) := by
  unfold State.hearsBridge State.boundNowhere State.attends State.settled
  decide +kernel

theorem witness_AcceptBindsTrain :
    let s := part .run (routeWith [waitingTour .planned none []] none) (unitWith (.offered 33 12 1) none none) []
    (s.hearsBridge bridge 33 ∧ (s.train 0).binding = .offered 33 12 1 ∧ (s.train 0).offerNumber = 6 ∧
      s.boundOnlyTo 33 0 ∧ ∀ head ∈ (s.route 0).waiting.head?, head.held = false) ∧
    ((ready .ready).hearsBridge bridge 33 ∧ ((ready .ready).train 0).binding = .bound 33 12 .ready ∧
      ((ready .ready).train 0).offerNumber = 6 ∧ (ready .ready).boundOnlyTo 33 0 ∧
      ((ready .ready).route 0).running = none) ∧
    (8 ≤ 8 ∧ (s.train 0).offerNumber ≠ 7 ∧ touring.hearsBridge bridge 33 ∧ (touring.train 1).binding.trainId ≠ some 33) := by
  unfold State.hearsBridge State.boundOnlyTo State.attends State.settled
  decide +kernel

theorem witness_SignOffUnbinds :
    let offered := part .setup (routeWith [] none) (unitWith (.offered 33 12 1) none none) []
    ((ready .ready).hearsBridge bridge 33 ∧ (ready .ready).boundOnlyTo 33 0 ∧
      ((ready .ready).train 0).binding = .bound 33 12 .ready ∧ ((ready .ready).route 0).running = none) ∧
    (offered.hearsBridge bridge 33 ∧ offered.boundOnlyTo 33 0 ∧ (offered.train 0).binding = .offered 33 12 1) ∧
    (touring.hearsBridge bridge 33 ∧ touring.boundOnlyTo 33 0 ∧ (touring.train 0).binding = .bound 33 12 .onTour) ∧
    (touring.hearsBridge bridge 34 ∧ (touring.train 0).binding.trainId ≠ some 34 ∧
      (touring.train 1).binding.trainId ≠ some 33) := by
  unfold State.hearsBridge State.boundOnlyTo State.attends State.settled
  refine ⟨?_, ?_, ?_, ?_⟩ <;> decide +kernel

/-- Marker 8 names the next stop, marker 7 the current one, marker 9 none. -/
theorem witness_PassMovesEntries :
    ∃ tour stop, touring.hearsBridge bridge 33 ∧ touring.boundOnlyTo 33 0 ∧
      (touring.train 0).binding = .bound 33 12 .onTour ∧ (touring.route 0).running = some tour ∧
      (tour.stopList (touring.route 0)).find? (fun x => x.marker == 8) = some stop ∧
      tour.currentStop.getD (-1) < (stop.stop : Int) ∧
      (tour.stopList (touring.route 0)).find? (fun x => x.marker == 7) = some { stop := 0, offset := 100, marker := 7 } ∧
      ((0 : Nat) : Int) ≤ tour.currentStop.getD (-1) ∧
      (tour.stopList (touring.route 0)).find? (fun x => x.marker == 9) = none ∧
      touring.emitQueue.length + 2 + 1 ≤ 32 ∧ touring.ringKept := by
  refine ⟨runningTour [entry 1 0 .atStop, entry 2 1 .loaded, entry 3 0 .presumed],
    { stop := 1, offset := 200, marker := 8 }, ?_⟩
  unfold State.hearsBridge State.boundOnlyTo State.attends State.settled State.ringKept
  decide +kernel

/-- Entry 1 at its stop, entry 3 presumed, and number 4 of no entry. -/
theorem witness_DeliveredConfirmsEntry :
    ∃ tour, touring.hearsBridge bridge 33 ∧ touring.boundOnlyTo 33 0 ∧
      (touring.train 0).binding = .bound 33 12 .onTour ∧ (touring.route 0).running = some tour ∧
      tour.entries.find? (fun e => e.number == some 1) = some (entry 1 0 .atStop) ∧
      tour.entries.find? (fun e => e.number == some 3) = some (entry 3 0 .presumed) ∧
      tour.entries.find? (fun e => e.number == some 4) = none := by
  refine ⟨runningTour [entry 1 0 .atStop, entry 2 1 .loaded, entry 3 0 .presumed], ?_⟩
  unfold State.hearsBridge State.boundOnlyTo State.attends State.settled
  decide +kernel

theorem witness_DeliveredSettlesRecord :
    let s : State := { idle with mode := .run, records := Vector.replicate 3 none |>.push (some kept) }
    s.hearsBridge bridge 33 ∧ s.hearsBridge bridge 34 ∧ (∀ x ∈ (s.route 0).running, x.number ≠ 2) ∧
    s.record 3 = some kept ∧ kept.route = 0 ∧ kept.tour = 2 ∧ kept.train = 33 ∧
    (∀ j < 3, ∀ other ∈ s.record j, ¬ (other.route = 0 ∧ other.tour = 2)) ∧
    (kept.pending.find? fun p => p.number == 1).isSome ∧ ∀ p ∈ kept.pending, p.number ≠ 2 := by
  unfold State.hearsBridge State.attends State.settled
  decide +kernel

/-- One entry to return, beside 63 orders and beside 64. -/
theorem witness_ReturnEndsTour :
    let tour := runningTour [entry 1 0 .atStop, entry 2 1 .loaded, entry 3 0 .presumed]
    let s := fun n => part .run (routeWith [] (some tour)) (unitWith (.bound 33 12 .onTour) (some 1) (some 1))
      (List.replicate n (order 1 9 9))
    ((s 63).hearsBridge bridge 33 ∧ (s 63).boundOnlyTo 33 0 ∧ ((s 63).train 0).binding = .bound 33 12 .onTour ∧
      ((s 63).route 0).running = some tour ∧ (∀ head ∈ ((s 63).route 0).waiting.head?, head.held = false) ∧
      (s 63).backlog.length + (tour.entries.filter fun e => e.state == .loaded || e.state == .skipped).length ≤ 64) ∧
    ((s 64).hearsBridge bridge 33 ∧ (s 64).boundOnlyTo 33 0 ∧ (s 64).backlog.length = 64) := by
  unfold State.hearsBridge State.boundOnlyTo State.attends State.settled
  refine ⟨?_, ?_⟩ <;> decide +kernel

theorem witness_FaultCapturesTour :
    let tour := runningTour [entry 1 0 .atStop, entry 2 1 .loaded, entry 3 0 .presumed]
    ((ready .ready).hearsBridge bridge 33 ∧ (ready .ready).boundOnlyTo 33 0 ∧
      ((ready .ready).train 0).binding = .bound 33 12 .ready ∧ ((ready .ready).route 0).running = none) ∧
    (touring.hearsBridge bridge 33 ∧ touring.boundOnlyTo 33 0 ∧ (touring.train 0).binding = .bound 33 12 .onTour ∧
      (touring.route 0).running = some tour ∧ tour.entries.filter Entry.isOpen ≠ [] ∧ touring.record 0 = none) := by
  unfold State.hearsBridge State.boundOnlyTo State.attends State.settled
  refine ⟨?_, ?_⟩ <;> decide +kernel

theorem witness_StrangersAreRefused :
    (touring.hearsBridge bridge 34 ∧ touring.boundNowhere 34 ∧ ∀ k < 4, ∀ x ∈ touring.record k, x.train ≠ 34) ∧
    ((ready .ready).hearsBridge bridge 33 ∧ (ready .ready).boundOnlyTo 33 0 ∧
      ((ready .ready).train 0).binding.boundTrain = some 33 ∧ ((ready .ready).route 0).running = none) := by
  unfold State.hearsBridge State.boundNowhere State.boundOnlyTo State.attends State.settled
  decide +kernel

theorem witness_RefusedRequestsChangeNothing :
    let busy : State := { idle with storeOp := some { work := .erase, replyTo := 1, number := 0, elapsed := 0 } }
    (idle.attends ∧ idle.station = some env.dst ∧ idle.server = some env.src ∧ env.src ≠ env.dst ∧ idle.mode = .setup) ∧
    (requestOf (.halt env) = some (env, .halt) ∧ requestOf (.start env) = some (env, .start) ∧
      requestOf (.commission env 0 1 2) = some (env, .commission 0 1 2)) ∧
    (touring.attends ∧ touring.station = some env.dst ∧ touring.server = some env.src ∧ touring.mode = .run) ∧
    (busy.attends ∧ busy.storeOp.isSome ∧ busy.mode = .setup) ∧ idle.server ≠ some { env with src := 2 }.src := by
  unfold State.attends State.settled
  decide +kernel

theorem witness_IdentityAndCauseAreRead :
    (idle.attends ∧ idle.station = some env.dst ∧ env.src ≠ env.dst) ∧
    (State.reset.resetLow = false ∧ State.reset.mode = .uncommissioned ∧ State.reset.settled ∧
      State.reset.commissionSound ∧ toAll.dst = 255 ∧ State.reset.formerStation ≠ some toAll.src) ∧
    idle.hearsServer env := by
  unfold State.hearsServer State.commissionSound State.attends State.settled
  decide +kernel

theorem witness_CommissionSetsRecord :
    (State.reset.resetLow = false ∧ State.reset.mode = .uncommissioned ∧ State.reset.settled ∧
      State.reset.commissionSound ∧ toAll.dst = 255 ∧ State.reset.formerStation ≠ some toAll.src) ∧
    0 = State.reset.serial ∧ 1 ≠ State.reset.serial ∧ 1 ≤ 254 ∧ 254 ≠ 1 := by
  unfold State.commissionSound State.settled
  decide +kernel

/-- An erase, and its end. -/
def erasing : StoreOp := { work := .erase, replyTo := 1, number := 0, elapsed := 20 }

theorem witness_DecommissionEmptiesPart :
    (idle.hearsServer env ∧ idle.mode = .setup ∧ idle.storeOp = none) ∧
    (State.storeOp { idle with storeOp := some erasing } = some erasing ∧ erasing.work = .erase) := by
  unfold State.hearsServer State.attends State.settled
  decide +kernel

theorem witness_StartBuildsTours :
    idle.hearsServer env ∧ idle.mode = .setup ∧ idle.quietOutsideRun ∧ idle.storeOp = none ∧
    (idle.route 0).enabled = true ∧ 1 ≤ (idle.route 0).cfg.depth ∧ (idle.route 1).enabled = false := by
  unfold State.hearsServer State.attends State.settled State.quietOutsideRun
  decide +kernel

/-- A RUNNING tour, one waiting entry beside 64 orders, and beside 63. -/
theorem witness_HaltDissolvesTours :
    let s := fun n => part .run (routeWith [waitingTour .planned none [entry 1 0 .waiting]] none)
      (unitWith .unbound none none) (List.replicate n (order 1 9 9))
    (touring.hearsServer env ∧ touring.mode = .run ∧ ∃ r < 8, (touring.route r).running.isSome) ∧
    ((s 64).hearsServer env ∧ (s 64).mode = .run ∧ (∀ r < 8, ((s 64).route r).running = none) ∧ (s 64).recordsFree ∧
      64 < (s 64).backlog.length
        + ((List.range 8).flatMap fun r => ((s 64).route r).waiting.flatMap Tour.entries).length) ∧
    ((∀ r < 8, ((s 63).route r).running = none) ∧ (s 63).recordsFree ∧
      (s 63).backlog.length
        + ((List.range 8).flatMap fun r => ((s 63).route r).waiting.flatMap Tour.entries).length ≤ 64) := by
  unfold State.hearsServer State.attends State.settled State.recordsFree
  refine ⟨?_, ?_, ?_⟩ <;> decide +kernel

theorem witness_PlantTimeIsSetAndHolds :
    (idle.hearsServer env ∧ idle.mode = .setup) ∧ (idle.resetLow = false ∧ idle.pt < 4294967295) ∧
    State.pt { idle with pt := 4294967295 } = 4294967295 := by
  unfold State.hearsServer State.attends State.settled
  decide +kernel

/-- The record of slot 0 as a write carries it. -/
def slotWrite (position : Nat) : SlotRecord :=
  { inUse := 1, rackStation := 11, position := position, partTag := 7, route := 0, stop := 0, bins := 3, pieces := 24,
    pullMode := 0, lineStation := 0, modelMask := 0, usage := 1, share := 256, reorderPoint := 0, margin := 0 }

/-- Slot 1 in RUN with orders, a key that another slot has, and one that none has; index 512, and a record out of range. -/
theorem witness_SlotWriteStartsAfresh :
    (idle.hearsServer env ∧ idle.storeOp = none ∧ idle.mode = .setup ∧ slotInRange (slotWrite 1) = true ∧
      slotInRange { slotWrite 1 with usage := 0 } = false) ∧
    (touring.hearsServer env ∧ touring.storeOp = none ∧ touring.mode = .run ∧ (touring.slot 1).onOrder ≠ 0 ∧
      (touring.slot 2).onOrder = 0) ∧
    ((slotWrite 1).inUse = 1 ∧ ∃ j < 512, j ≠ 511 ∧ (idle.slot j).config.inUse = true ∧
      (idle.slot j).config.rackStation = (slotWrite 1).rackStation ∧
      (idle.slot j).config.position = (slotWrite 1).position) ∧
    (∀ i < 512, (idle.slot i).config.position ≠ (slotWrite 3).position) := by
  unfold State.hearsServer State.attends State.settled
  refine ⟨?_, ?_, ⟨rfl, 0, ?_⟩, slots_all (p := fun x => x.config.position ≠ 3) (by decide +kernel)⟩ <;> decide +kernel

/-- A route record that fits two stops. -/
def routeWrite : RouteRecord :=
  { timingMode := 1, period := 2, cutoffLead := 1, depth := 1, binLimit := 1, policy := 0, pickStation := 30,
    confirmCode := 0, silenceLimit := 0, stopCount := 2 }

theorem witness_RouteWritesNeedDisabledRoute :
    let off : State := idle.modRoute 0 fun ro => { ro with enabled := false }
    (idle.hearsServer env ∧ idle.storeOp = none ∧ 0 < 8 ∧ routeInRange routeWrite = true ∧
      validStops (idle.route 0).stops routeWrite.stopCount = true ∧ (idle.route 0).enabled = true) ∧
    (off.hearsServer env ∧ off.storeOp = none ∧ (off.route 0).enabled = false ∧
      validStops (off.route 0).stops routeWrite.stopCount = true) ∧
    routeInRange { routeWrite with period := 0 } = false ∧
    ((off.route 0).config.isSome → 23 < (off.route 0).cfg.stopCount →
      validStops (setStop (off.route 0).stops 23 36000 255) (off.route 0).cfg.stopCount = true) := by
  unfold State.hearsServer State.attends State.settled
  decide +kernel

theorem witness_LineAndMaskAreWritten :
    (idle.hearsServer env ∧ idle.storeOp = none ∧ idle.mode = .setup) ∧
    (touring.hearsServer env ∧ touring.storeOp = none ∧ touring.mode = .run) ∧ 63 ≤ 63 ∧ 6000 ≤ 6000 ∧ 254 ≤ 254 := by
  unfold State.hearsServer State.attends State.settled
  decide +kernel

theorem witness_ReadsReturnTablesAndState :
    let s : State := { idle with records := Vector.replicate 3 none |>.push (some kept) }
    s.hearsServer env ∧ 511 < 512 ∧ 7 < 8 ∧ 23 < 24 ∧ 63 < 64 ∧ s.record 0 = none ∧ s.record 3 = some kept := by
  unfold State.hearsServer State.attends State.settled
  decide +kernel

/-- Route 1 has no record; route 0 is enabled, or disabled in SETUP and in RUN. -/
theorem witness_EnableMarksRoute :
    let off := fun m => (part m (routeWith [] none) (unitWith .unbound none none) []).modRoute 0
      fun ro => { ro with enabled := false }
    (idle.hearsServer env ∧ (idle.route 1).config = none ∧ (idle.route 0).config.isSome ∧
      (idle.route 0).enabled = true) ∧
    ((off .setup).hearsServer env ∧ (off .setup).mode = .setup ∧ ((off .setup).route 0).enabled = false ∧
      ((off .setup).route 0).config.isSome) ∧
    ((off .run).hearsServer env ∧ (off .run).mode = .run ∧ ((off .run).route 0).enabled = false ∧
      ((off .run).route 0).config.isSome ∧ ((off .run).route 0).waiting = []) := by
  unfold State.hearsServer State.attends State.settled
  refine ⟨?_, ?_, ?_⟩ <;> decide +kernel

/-- A RUNNING tour; one waiting entry beside 64 orders and beside 63; a route not enabled. -/
theorem witness_DisableDissolvesTours :
    let s := fun n => part .run (routeWith [waitingTour .planned none [entry 1 0 .waiting]] none)
      (unitWith .unbound none none) (List.replicate n (order 1 9 9))
    (touring.hearsServer env ∧ (touring.route 0).running.isSome) ∧
    ((s 64).hearsServer env ∧ ((s 64).route 0).running = none ∧
      (∀ head ∈ ((s 64).route 0).waiting.head?, head.held = false) ∧
      64 < (s 64).backlog.length + (((s 64).route 0).waiting.flatMap Tour.entries).length) ∧
    ((s 63).backlog.length + (((s 63).route 0).waiting.flatMap Tour.entries).length ≤ 64 ∧
      ((s 63).route 0).enabled = true) ∧
    ((idle.route 1).enabled = false ∧ (idle.route 1).running = none ∧ (idle.route 1).waiting = []) := by
  unfold State.hearsServer State.attends State.settled
  refine ⟨?_, ?_, ?_, ?_⟩ <;> decide +kernel

theorem witness_ReloadRebasesTours :
    (idle.hearsServer env ∧ (idle.route 1).config = none ∧ (idle.route 0).config.isSome ∧ idle.mode = .setup) ∧
    ((ready .ready).hearsServer env ∧ (ready .ready).mode = .run ∧ ((ready .ready).route 0).enabled = true ∧
      ((ready .ready).route 0).config.isSome ∧
      ((ready .ready).route 0).waiting = waitingTour .frozen (some .ready) [entry 1 0 .waiting] :: []) := by
  unfold State.hearsServer State.attends State.settled
  decide +kernel

theorem witness_DissolveReturnsPending :
    let s := fun n => ({ idle with
      mode := .run, records := Vector.replicate 3 none |>.push (some kept), backlog := List.replicate n (order 1 9 9) } : State)
    ((s 64).hearsServer env ∧ (s 64).record 4 = none ∧ (s 64).record 3 = some kept ∧ kept.route = 0 ∧ kept.tour = 2 ∧
      ¬ (kept.route = 0 ∧ kept.tour = 3)) ∧
    64 < (s 64).backlog.length + kept.pending.length ∧ (s 63).backlog.length + kept.pending.length ≤ 64 ∧
    (s 63).record 3 = some kept := by
  unfold State.hearsServer State.attends State.settled
  refine ⟨?_, ?_, ?_, ?_⟩ <;> decide +kernel

theorem witness_ResumeRunsTourAgain :
    let s := fun b => ({ part .run (routeWith [] none) (unitWith b none none) [] with
      records := Vector.replicate 3 none |>.push (some kept) } : State)
    ((s .unbound).hearsServer env ∧ (s .unbound).record 3 = some kept ∧ kept.route < 8 ∧
      ((s .unbound).train kept.route).binding.isReady = false) ∧
    ((s (.bound 33 12 .ready)).hearsServer env ∧ (s (.bound 33 12 .ready)).record 3 = some kept ∧
      ((s (.bound 33 12 .ready)).train kept.route).binding = .bound 33 12 .ready ∧
      ((s (.bound 33 12 .ready)).route kept.route).running = none) ∧
    (s (.bound 33 12 .ready)).ringKept ∧ (s (.bound 33 12 .ready)).emitQueue.length + 1 + 1 ≤ 32 := by
  unfold State.hearsServer State.attends State.settled State.ringKept
  refine ⟨?_, ?_, ?_, ?_⟩ <;> decide +kernel

/-- The reply to a RESTART in transmission. -/
def restartReply : Sending := { frame := Frame.make clsMaintReply 1 10 [16, 5, 0], own := true }

theorem witness_SaveKeepsSettings :
    let s : State := { idle with store := .valid (touring.imageOf true), ringOut := some restartReply }
    (idle.hearsServer env ∧ idle.mode = .setup ∧ idle.storeOp = none) ∧
    (∃ op, State.storeOp { idle with storeOp := some op } = some op ∧ op.work = .write (idle.imageOf true)) ∧
    (s.resetLow = false ∧ touring.station.isSome ∧ touring.server.isSome ∧ s.store = .valid (touring.imageOf true) ∧
      s.restartLeaves = true) := by
  unfold State.hearsServer State.attends State.settled
  exact ⟨by decide +kernel, ⟨{ work := .write (idle.imageOf true), replyTo := 1, number := 0, elapsed := 0 }, rfl, rfl⟩,
    rfl, rfl, rfl, rfl, by decide +kernel⟩

theorem witness_ResetsReturnResetValues :
    let low : State := { idle with resetLow := true, store := .started }
    let full : State := { idle with emitQueue := List.replicate 32 stray }
    (idle.store = .empty ∧ idle.resetLow = false ∧ idle.hearsServer env ∧ idle.emitQueue.length < 32 ∧
      idle.ringOut = none) ∧
    (low.store = .started ∧ low.resetLow = true) ∧
    (full.store = .empty ∧ full.hearsServer env ∧ 32 ≤ full.emitQueue.length) ∧
    (restartReply.own = true ∧ restartReply.frame.answersRestart = true) ∧
    (Sending.own { restartReply with own := false } && restartReply.frame.answersRestart) = false := by
  unfold State.hearsServer State.attends State.settled
  refine ⟨?_, ?_, ?_, ?_, ?_⟩ <;> decide +kernel

/-- The part as a press of slot 0 waits, and as train 33 returns. -/
def pressed : State := { idle with pending := [.binEmpty rack 1], backlog := [order 2 9 6, order 1 9 7] }
def returning : State := { touring with pending := [.trainReturn bridge 0 33] }

/-- Every step answers a next state. -/
theorem steps (s : State) : ∃ t, step s = .next t := by
  unfold step
  split
  · exact answers _ _
  · exact ⟨_, rfl⟩

theorem witness_LinkStaysBounded : pressed.linkBounded ∧ pressed.ringKept ∧ ∃ t, step pressed = .next t := by
  unfold State.linkBounded State.ringKept
  exact ⟨by decide +kernel, by decide +kernel, steps _⟩

theorem witness_BacklogStaysSound : pressed.backlogSound ∧ ∃ t, step pressed = .next t := by
  unfold State.backlogSound
  exact ⟨by decide +kernel, steps _⟩

theorem witness_SlotsStayWithinRacks : pressed.slotsWithinRacks ∧ ∃ t, step pressed = .next t :=
  ⟨slots_all (p := fun x => x.fullBins + x.onOrder ≤ x.config.bins) (by decide +kernel), steps _⟩

/-- The part as a press of slot 0 waits, with slot 1's two orders counted. -/
def accounted : State :=
  { pressed with slots := modifyAt pressed.slots 1 fun sl => { sl with onOrder := 2 } }

theorem witness_LiveOrdersStayAccounted :
    accounted.ordersAccounted ∧ accounted.entriesSound ∧ accounted.racksSized ∧ accounted.slotsWithinRacks ∧
    accounted.quietOutsideRun ∧ ∃ t, step accounted = .next t := by
  refine ⟨?_, ?_, ⟨by decide +kernel, ?_⟩,
    slots_all (p := fun x => x.fullBins + x.onOrder ≤ x.config.bins) (by decide +kernel), ?_, steps _⟩
  · unfold State.ordersAccounted
    refine ⟨by decide +kernel, by decide +kernel, by decide +kernel, by decide +kernel, by decide +kernel⟩
  · have boards : ∀ r < 8, (accounted.route r).waiting = [] ∧ (accounted.route r).running = none := by decide +kernel
    have free : ∀ k < 4, accounted.record k = none := by decide +kernel
    refine ⟨fun r hr => ⟨fun t h => ?_, fun t h => ?_⟩, fun k hk kept h => ?_⟩
    · simp [boards r hr] at h
    · simp [boards r hr] at h
    · simp [free k hk] at h
  · rintro image (h | ⟨op, h, -⟩) <;> exact nomatch h
  · unfold State.quietOutsideRun
    decide +kernel

theorem witness_ModesStaySound : pressed.commissionSound ∧ pressed.quietOutsideRun ∧ ∃ t, step pressed = .next t := by
  unfold State.commissionSound State.quietOutsideRun
  exact ⟨by decide +kernel, by decide +kernel, steps _⟩

theorem witness_ToursKeepTrains : returning.toursHaveTrains ∧ ∃ t, step returning = .next t := by
  unfold State.toursHaveTrains
  exact ⟨by decide +kernel, steps _⟩

end Sys2Proof.Tests
end

section
/-! The Reach Calculator: what each stage of a dating gives, that no stage falls as the stock grows, and the statements about
a dating that follow (R25 to R29, R33). -/

namespace Sys2Proof.Machine

/-! ## Sums and limits (section 3.1) -/

/-- Holding at a limit keeps the order; core Lean, which these files build on alone, has no such lemma. -/
theorem min_limit_mono {a b : Nat} (le : a ≤ b) (limit : Nat) : min a limit ≤ min b limit :=
  Nat.le_min.mpr ⟨Nat.le_trans (Nat.min_le_left a limit) le, Nat.min_le_right a limit⟩

theorem le_satAdd {now : Nat} (inRange : now ≤ ptMax) (ticks : Nat) : now ≤ satAdd now ticks :=
  Nat.le_min_of_le_of_le (Nat.le_add_right now ticks) inRange

theorem satAdd_le_satAdd_left {ticks later : Nat} (le : ticks ≤ later) (now : Nat) :
    satAdd now ticks ≤ satAdd now later :=
  min_limit_mono (Nat.add_le_add_left le now) ptMax

/-! ## Stages 1 to 4 -/

theorem reachStock_of_le {pieces : Nat} (inRange : pieces ≤ piecesMax) : reachStock pieces = pieces * 256 := by
  rw [reachStock, Nat.min_eq_left inRange]

theorem reachStock_le (pieces : Nat) : reachStock pieces ≤ piecesMax * 256 :=
  Nat.mul_le_mul_right 256 (Nat.min_le_right pieces piecesMax)

theorem reachStock_mono {pieces more : Nat} (le : pieces ≤ more) : reachStock pieces ≤ reachStock more :=
  Nat.mul_le_mul_right 256 (min_limit_mono le piecesMax)

theorem reachTakts_le_horizon (pieces usage share : Nat) : reachTakts pieces usage share ≤ Config.horizon :=
  Nat.min_le_right _ _

theorem reachTakts_mono {pieces more : Nat} (le : pieces ≤ more) (usage share : Nat) :
    reachTakts pieces usage share ≤ reachTakts more usage share :=
  min_limit_mono (Nat.div_le_div_right (reachStock_mono le)) Config.horizon

/-- Stock for less than one takt counts as none: the truncation rounds toward the earlier due time (R26). -/
theorem reachTakts_eq_zero {pieces usage share : Nat} (short : reachStock pieces < reachDemand usage share) :
    reachTakts pieces usage share = 0 := by
  rw [reachTakts, Nat.div_eq_of_lt short, Nat.zero_min]

theorem reachTicks_le {takt longest : Nat} (le : takt ≤ longest) (pieces usage share : Nat) :
    reachTicks pieces usage share takt ≤ Config.horizon * longest :=
  Nat.mul_le_mul (reachTakts_le_horizon pieces usage share) le

theorem reachTicks_mono {pieces more : Nat} (le : pieces ≤ more) (usage share takt : Nat) :
    reachTicks pieces usage share takt ≤ reachTicks more usage share takt :=
  Nat.mul_le_mul_right takt (reachTakts_mono le usage share)

theorem reachTicks_eq_zero_iff {takt : Nat} (pos : 1 ≤ takt) (pieces usage share : Nat) :
    reachTicks pieces usage share takt = 0 ↔ reachTakts pieces usage share = 0 := by
  rw [reachTicks, Nat.mul_eq_zero, or_iff_left (Nat.ne_zero_of_lt pos)]

/-- An empty slot has no reach (R28). -/
@[simp] theorem reachTicks_empty (usage share takt : Nat) : reachTicks 0 usage share takt = 0 := by
  rw [reachTicks, reachTakts, reachStock_of_le (Nat.zero_le piecesMax), Nat.zero_mul, Nat.zero_div, Nat.zero_min,
    Nat.zero_mul]

/-! ## Stage 5 -/

section
variable {pieces usage share margin takt now : Nat}

theorem dating_of_margin_lt (beyond : margin < reachTicks pieces usage share takt) :
    dating pieces usage share margin takt now =
      { due := satAdd now (reachTicks pieces usage share takt - margin), urgent := false } :=
  if_pos beyond

theorem dating_of_le_margin (within : reachTicks pieces usage share takt ≤ margin) :
    dating pieces usage share margin takt now = { due := now, urgent := true } :=
  if_neg (Nat.not_lt.mpr within)

/-- The two cases divide at equality (R28). -/
theorem dating_urgent_iff :
    (dating pieces usage share margin takt now).urgent = true ↔ reachTicks pieces usage share takt ≤ margin := by
  rcases Nat.lt_or_ge margin (reachTicks pieces usage share takt) with beyond | within
  · rw [dating_of_margin_lt beyond]
    exact iff_of_false Bool.false_ne_true (Nat.not_le.mpr beyond)
  · rw [dating_of_le_margin within]
    exact iff_of_true rfl within

theorem dating_not_urgent_iff :
    (dating pieces usage share margin takt now).urgent = false ↔ margin < reachTicks pieces usage share takt := by
  rw [← Bool.not_eq_true, dating_urgent_iff, Nat.not_le]

/-- An order's due time is never before the now of its dating (R29). -/
theorem le_dating_due (inRange : now ≤ ptMax) : now ≤ (dating pieces usage share margin takt now).due := by
  rcases Nat.lt_or_ge margin (reachTicks pieces usage share takt) with beyond | within
  · rw [dating_of_margin_lt beyond]
    exact le_satAdd inRange _
  · exact Nat.le_of_eq (congrArg Dating.due (dating_of_le_margin within)).symm

/-- The due time is non-decreasing in the stock: an URGENT order is due now, which none precedes, and an order that is not
URGENT stays so with a reach at least as long (R33). -/
theorem dating_due_mono {more : Nat} (le : pieces ≤ more) (inRange : now ≤ ptMax) :
    (dating pieces usage share margin takt now).due ≤ (dating more usage share margin takt now).due := by
  have longer := reachTicks_mono le usage share takt
  rcases Nat.lt_or_ge margin (reachTicks pieces usage share takt) with beyond | within
  · rw [dating_of_margin_lt beyond, dating_of_margin_lt (Nat.lt_of_lt_of_le beyond longer)]
    exact satAdd_le_satAdd_left (Nat.sub_le_sub_right longer margin) now
  · rw [dating_of_le_margin within]
    exact le_dating_due inRange

end

/-! ## The statements -/

/-- Settles O10: each stage by its own lemma, at the ends of the inputs' ranges. -/
theorem datingFollowsFiveStages : Obligations.DatingFollowsFiveStages := by
  intro pieces usage share margin takt now hpieces husage husageMax hshare hshareMax htakt htaktMax hnow
    stock demand takts reach dated
  have noMargin (h : margin = 0) : dated.urgent = true ↔ reach = 0 := by
    rw [dating_urgent_iff, h, Nat.le_zero]
  have empty (h : pieces = 0) : dated.urgent = true := by
    rw [dating_urgent_iff, h, reachTicks_empty]
    exact Nat.zero_le margin
  exact ⟨reachStock_of_le hpieces, reachStock_le pieces,
    rfl, Nat.mul_pos husage hshare, Nat.mul_le_mul husageMax hshareMax,
    rfl, reachTakts_eq_zero,
    rfl, reachTicks_le htaktMax pieces usage share,
    dating_of_margin_lt, dating_of_le_margin,
    fun h => ⟨noMargin h, reachTicks_eq_zero_iff htakt pieces usage share⟩,
    empty, le_dating_due hnow⟩

/-- Settles O11: every stage is non-decreasing in the stock. -/
theorem moreStockIsNeverDueEarlier : Obligations.MoreStockIsNeverDueEarlier := by
  intro pieces more usage share margin takt now le hnow
  refine ⟨dating_due_mono le hnow, fun calm => ?_⟩
  have beyond : margin < reachTicks pieces usage share takt := dating_not_urgent_iff.mp calm
  exact dating_not_urgent_iff.mpr (Nat.lt_of_lt_of_le beyond (reachTicks_mono le usage share takt))

end Sys2Proof.Machine
end

section
/-! What the part sends in the course of an event: each operation adds frames at the end of those that are to leave, clears no
alert flag, and lengthens the emit queue by no more than it adds (R157 to R159, R168). -/

namespace Sys2Proof.Machine

/-! ## Fields that emission leaves -/

@[simp] theorem State.route_emit (s : State) (cls dst r : Nat) (p : List Byte) : (s.emit cls dst p).route r = s.route r := by
  simp [State.route]
@[simp] theorem State.train_emit (s : State) (cls dst r : Nat) (p : List Byte) : (s.emit cls dst p).train r = s.train r := by
  simp [State.train]
@[simp] theorem State.route_raise (s : State) (a : Alert) (r : Nat) : (s.raise a).route r = s.route r := by
  simp [State.route]

/-! ## Frames added -/

/-- From one state to the next the frames `sent` join those that are to leave, at their end and in order. -/
structure State.Sends (s t : State) (sent : List Frame) : Prop where
  flags : ∀ a, s.flagSet a = true → t.flagSet a = true
  kept : s.ringKept → t.ringKept
  leaving : s.ringKept → t.leaving = s.leaving ++ sent
  queue : t.emitQueue.length ≤ s.emitQueue.length + sent.length

/-- The frames added hold none of a class. -/
def State.sendsNo (s t : State) (cls : Nat) : Prop := ∃ sent, s.Sends t sent ∧ ∀ f ∈ sent, f.cls ≠ cls

/-- At most one frame is added, an ALERT telegram, and none where the alert stood before; the alert stands once it was sent. -/
def State.alertsOnce (s t : State) (a : Alert) : Prop :=
  ∃ sent, s.Sends t sent ∧ (∀ f ∈ sent, f.cls = clsAlert) ∧ sent.length ≤ 1 ∧ (s.flagSet a = true → sent = []) ∧
    (sent ≠ [] → t.flagSet a = true)

/-- A change that leaves LU and the flags alone sends nothing. -/
theorem State.Sends.of_link {s t : State} (flags : t.flags = s.flags) (forward : t.forwardQueue = s.forwardQueue)
    (emit : t.emitQueue = s.emitQueue) (out : t.ringOut = s.ringOut) : s.Sends t [] where
  flags a h := by simpa [State.flagSet, flags] using h
  kept h := by simpa [State.ringKept, forward, emit, out] using h
  leaving _ := by simp [State.leaving, emit, out]
  queue := by simp [emit]

theorem State.Sends.refl (s : State) : s.Sends s [] := .of_link rfl rfl rfl rfl

theorem State.Sends.trans {s t u : State} {a b : List Frame} (h : s.Sends t a) (h' : t.Sends u b) :
    s.Sends u (a ++ b) where
  flags x hx := h'.flags x (h.flags x hx)
  kept hk := h'.kept (h.kept hk)
  leaving hk := by rw [h'.leaving (h.kept hk), h.leaving hk, List.append_assoc]
  queue := by
    have first := h.queue
    have second := h'.queue
    simp only [List.length_append]
    omega

theorem State.Sends.sendsNo_of_nil {s t : State} (h : s.Sends t []) (cls : Nat) : s.sendsNo t cls :=
  ⟨[], h, by simp⟩

theorem State.sendsNo.of_link {s t : State} {cls : Nat} (flags : t.flags = s.flags)
    (forward : t.forwardQueue = s.forwardQueue) (emit : t.emitQueue = s.emitQueue) (out : t.ringOut = s.ringOut) :
    s.sendsNo t cls :=
  (State.Sends.of_link flags forward emit out).sendsNo_of_nil cls

theorem State.sendsNo.trans {s t u : State} {cls : Nat} (h : s.sendsNo t cls) (h' : t.sendsNo u cls) : s.sendsNo u cls := by
  obtain ⟨a, ha, hca⟩ := h
  obtain ⟨b, hb, hcb⟩ := h'
  refine ⟨a ++ b, ha.trans hb, fun f hf => ?_⟩
  rcases List.mem_append.mp hf with hf | hf
  · exact hca f hf
  · exact hcb f hf

theorem State.sendsNo.flags {s t : State} {cls : Nat} (h : s.sendsNo t cls) {a : Alert} (ha : s.flagSet a = true) :
    t.flagSet a = true := by
  obtain ⟨_, hs, -⟩ := h
  exact hs.flags a ha

/-- An event that sends no telegram of a class sends the empty series of it. -/
theorem State.sendsSeries_of_before {s mid t : State} {before : List Frame} {ahead cls dst : Nat} {ps : List (List Byte)}
    (hb : s.Sends mid before) (hlen : before.length ≤ ahead) (hcls : ∀ f ∈ before, f.cls ≠ cls)
    (hps : mid.emitQueue.length + ps.length ≤ 32 →
      ∃ u, mid.Sends u (ps.map (Frame.make cls dst (s.station.getD 0))) ∧ u.sendsNo t cls) :
    s.sendsSeries t ahead cls dst ps := by
  intro kept room
  have queue := hb.queue
  obtain ⟨u, hu, after, ha, hac⟩ := hps (by omega)
  refine ⟨before, after, hlen, fun f hf => ?_, ?_⟩
  · rcases List.mem_append.mp hf with hf | hf
    · exact hcls f hf
    · exact hac f hf
  · rw [((hb.trans hu).trans ha).leaving kept]
    simp [List.append_assoc]

theorem State.alertsOnce.of_sends_nil {s t : State} (h : s.Sends t []) (a : Alert) : s.alertsOnce t a :=
  ⟨[], h, by simp⟩

theorem State.alertsOnce.sendsNo {s t : State} {a : Alert} (h : s.alertsOnce t a) {cls : Nat} (hc : clsAlert ≠ cls) :
    s.sendsNo t cls := by
  obtain ⟨sent, hs, hcls, -⟩ := h
  exact ⟨sent, hs, fun f hf => by rw [hcls f hf]; exact hc⟩

/-- An alert that was sent stands, and is not sent again. -/
theorem State.alertsOnce.trans {s t u : State} {a : Alert} (h : s.alertsOnce t a) (h' : t.alertsOnce u a) :
    s.alertsOnce u a := by
  obtain ⟨x, hx, hcx, lx, ox, fx⟩ := h
  obtain ⟨y, hy, hcy, ly, oy, fy⟩ := h'
  by_cases hn : x = []
  · subst hn
    exact ⟨y, by simpa using hx.trans hy, hcy, ly, fun hs => oy (hx.flags a hs), fy⟩
  · have hy0 : y = [] := oy (fx hn)
    subst hy0
    exact ⟨x, by simpa using hx.trans hy, hcx, lx, ox, fun h => hy.flags a (fx h)⟩

/-! ## Emission -/

theorem State.flagSet_setFlag_self (s : State) (a : Alert) : (s.setFlag a).flagSet a = true := by
  cases a <;> simp [State.flagSet, State.setFlag, Alert.bit]

/-- A join lengthens the emit queue in no case: the arbiter only takes from it. -/
theorem State.kick_emitQueue_length (s : State) : s.kick.emitQueue.length ≤ s.emitQueue.length := by
  unfold State.kick State.arbitrate
  split
  · split
    · simp
    · simp
    · simp_all
    · split <;> simp_all
  · exact Nat.le_refl _

/-- A telegram with room is sent (R157, R159). -/
theorem State.emit_sends {s : State} (room : s.emitQueue.length < 32) (cls dst : Nat) (p : List Byte) :
    s.Sends (s.emit cls dst p) [Frame.make cls dst (s.station.getD 0) p] where
  flags a h := by
    have hr : s.emitRoom = true := by simp [State.emitRoom, Config.emitSize, room]
    simpa [State.emit, hr, State.flagSet] using h
  kept h := State.emit_ringKept h cls dst p
  leaving h := State.emit_leaving h room cls dst p
  queue := by
    have hr : s.emitRoom = true := by simp [State.emitRoom, Config.emitSize, room]
    simp only [State.emit, hr, if_true]
    exact Nat.le_trans (State.kick_emitQueue_length _) (by simp)

/-- A telegram to a full queue is not sent (R157). -/
theorem State.emit_sends_full {s : State} (full : 32 ≤ s.emitQueue.length) (cls dst : Nat) (p : List Byte) :
    s.Sends (s.emit cls dst p) [] := by
  have hr : s.emitRoom = false := decide_eq_false (Nat.not_lt.mpr full)
  have he : s.emit cls dst p = s.setFlag .emitOverrun := by simp [State.emit, hr]
  rw [he]
  exact ⟨fun a h => s.setFlag_flagSet a _ h, fun h => h, fun _ => by simp [State.leaving, State.setFlag], Nat.le_refl _⟩

/-- A telegram of one class adds none of another. -/
theorem State.emit_sendsNo (s : State) {cls no : Nat} (hc : cls ≠ no) (dst : Nat) (p : List Byte) :
    s.sendsNo (s.emit cls dst p) no := by
  rcases Nat.lt_or_ge s.emitQueue.length 32 with room | full
  · exact ⟨_, State.emit_sends room cls dst p, by simpa using hc⟩
  · exact (State.emit_sends_full full cls dst p).sendsNo_of_nil no

/-- Telegrams handed to LU one after another are all sent where the emit queue has room for them. -/
theorem State.emits_sends (cls dst : Nat) (ps : List (List Byte)) (s : State) (room : s.emitQueue.length + ps.length ≤ 32) :
    s.Sends (ps.foldl (fun x p => x.emit cls dst p) s) (ps.map (Frame.make cls dst (s.station.getD 0))) := by
  induction ps generalizing s with
  | nil => exact .refl s
  | cons p ps ih =>
    simp only [List.length_cons] at room
    have first := State.emit_sends (s := s) (by omega) cls dst p
    have rest := ih (s.emit cls dst p) (by have := first.queue; simp only [List.length_singleton] at this; omega)
    simpa using first.trans rest

theorem State.emits_sendsNo {cls no : Nat} (hc : cls ≠ no) (dst : Nat) (ps : List (List Byte)) (s : State) :
    s.sendsNo (ps.foldl (fun x p => x.emit cls dst p) s) no := by
  induction ps generalizing s with
  | nil => exact (State.Sends.refl s).sendsNo_of_nil no
  | cons p ps ih => exact (s.emit_sendsNo hc dst p).trans (ih _)

/-! ## Alerts -/

/-- An alert that stands is not raised again (R168). -/
theorem State.raise_of_flagSet {s : State} {a : Alert} (h : s.flagSet a = true) : s.raise a = s := if_pos h

theorem State.setFlag_sends (s : State) (a : Alert) : s.Sends (s.setFlag a) [] :=
  ⟨fun b h => s.setFlag_flagSet b a h, fun h => h, fun _ => by simp [State.leaving, State.setFlag], Nat.le_refl _⟩

/-- A raised alert stands. -/
theorem State.raise_flagSet (s : State) (a : Alert) : (s.raise a).flagSet a = true := by
  unfold State.raise
  split
  · assumption
  · dsimp only
    split
    · exact (State.emit_sendsNo _ (no := 0) (by decide) _ _).flags (s.flagSet_setFlag_self a)
    · exact s.flagSet_setFlag_self a

/-- Raising an alert sends its ALERT telegram at most once (R168). -/
theorem State.raise_alertsOnce (s : State) (a : Alert) : s.alertsOnce (s.raise a) a := by
  by_cases hf : s.flagSet a = true
  · rw [State.raise_of_flagSet hf]
    exact .of_sends_nil (.refl s) a
  · have hs := s.setFlag_sends a
    have stands := s.raise_flagSet a
    have off : s.flagSet a = true → ∀ l : List Frame, l = [] := fun h => absurd h hf
    unfold State.raise at stands ⊢
    simp only [hf] at stands ⊢
    by_cases on : ((s.setFlag a).enabled a && (s.setFlag a).mode != .uncommissioned) = true
    · simp only [on, if_true] at stands ⊢
      rcases Nat.lt_or_ge (s.setFlag a).emitQueue.length 32 with room | full
      · exact ⟨_, hs.trans (State.emit_sends room _ _ _), by simp, by simp, fun h => off h _, fun _ => stands⟩
      · exact .of_sends_nil (hs.trans (State.emit_sends_full full _ _ _)) a
    · simp only [on] at stands ⊢
      exact .of_sends_nil hs a

/-! ## Lamps -/

/-- A lamp derivation sends LAMP telegrams alone (R20). -/
theorem State.deriveLamp_sendsNo (s : State) (i : Nat) {cls : Nat} (hc : clsLamp ≠ cls) :
    s.sendsNo (s.deriveLamp i) cls := by
  have lamp : s.sendsNo (s.emitLamp i (s.lampOf i)) cls := s.emit_sendsNo hc _ _
  unfold State.deriveLamp
  split
  · split
    · exact lamp.trans (.of_link (by rfl) (by rfl) (by rfl) (by rfl))
    · exact lamp
  · exact (State.Sends.refl s).sendsNo_of_nil cls

/-- The end of an event sends LAMP telegrams alone (R19, R158). -/
theorem State.settleLamps_sendsNo (s : State) {cls : Nat} (hc : clsLamp ≠ cls) : s.sendsNo s.settleLamps cls := by
  have derive (is : List Nat) (x : State) : x.sendsNo (is.foldl State.deriveLamp x) cls := by
    induction is generalizing x with
    | nil => exact (State.Sends.refl x).sendsNo_of_nil cls
    | cons i is ih => exact (x.deriveLamp_sendsNo i hc).trans (ih _)
  unfold State.settleLamps
  exact State.sendsNo.trans (.of_link (by rfl) (by rfl) (by rfl) (by rfl)) (derive s.lampOrder _)

end Sys2Proof.Machine
end

section
/-! The server's reads and its writes of the route table: each request that MU's checks let pass is carried out and answered,
and an event that reported no slot ends with its answer (R40 to R42, R163, R167). -/

namespace Sys2Proof.Machine

/-! ## Requests answered at once -/

/-- The two kinds of read and the writes of a table pass the checks of every commissioned mode (Table 10-2). -/
theorem RequestKind.modeRefusal_none {k : RequestKind} {m : Mode} (hm : m ≠ .uncommissioned)
    (hk : k ∈ [.tableWrite, .tableRead, .stateRead, .routeEnable, .routeDisable, .routeReload]) :
    k.modeRefusal m = none := by
  cases m with
  | uncommissioned => exact absurd rfl hm
  | setup => revert k; decide
  | run => revert k; decide

/-- A request whose outcome is an answer, with no slot reported, ends with that answer. -/
theorem State.hear_request_answered {s t : State} {e : Envelope} (index fromField : Nat) (q : Request) {st : Status}
    {data : List Byte} (hh : s.hearsServer e) (hmode : q.kind.modeRefusal s.mode = none)
    (hstore : s.storeOp = none ∨ q.kind.waitsForStore = false) (quiet : t.reported = [])
    (out : s.carryOut { src := e.src, kind := byte q.kind.code, number := byte e.number } q
      = t.reply { src := e.src, kind := byte q.kind.code, number := byte e.number } st data) :
    s.hearRequest e index fromField q = t.answered e q.kind.code st.code data := by
  rw [State.hear_request_taken index fromField q hh hmode hstore, out, State.reply_answered,
    State.answered_settled quiet]

/-- A read is answered with its data, or with RANGE where there is none (R167). -/
def readAnswer (s : State) (e : Envelope) (kind : Nat) (data : Option (List Byte)) : State :=
  match data with
  | some d => s.answered e kind 0 d
  | none => s.answered e kind 4 []

theorem State.hear_tableRead {s : State} {e : Envelope} (x : TableRead) (hh : s.hearsServer e) :
    s.hearRequest e 0 0 (.tableRead x) = readAnswer s e 8 (s.tableReadData x) := by
  have mode : (Request.tableRead x).kind.modeRefusal s.mode = none :=
    RequestKind.modeRefusal_none hh.1.2.1 (by simp [Request.kind])
  unfold readAnswer
  cases hd : s.tableReadData x with
  | some d =>
    exact State.hear_request_answered 0 0 _ (st := .ok) hh mode (.inr rfl) hh.1.2.2
      (by simp [State.carryOut, State.doTableRead, State.replyRead, hd])
  | none =>
    exact State.hear_request_answered 0 0 _ (st := .range) hh mode (.inr rfl) hh.1.2.2
      (by simp [State.carryOut, State.doTableRead, State.replyRead, hd])

theorem State.hear_stateRead {s : State} {e : Envelope} (index fromField : Nat) (x : StateRead) (hh : s.hearsServer e) :
    s.hearRequest e index fromField (.stateRead x) = readAnswer s e 9 (s.stateReadData x) := by
  have mode : (Request.stateRead x).kind.modeRefusal s.mode = none :=
    RequestKind.modeRefusal_none hh.1.2.1 (by simp [Request.kind])
  unfold readAnswer
  cases hd : s.stateReadData x with
  | some d =>
    exact State.hear_request_answered index fromField _ (st := .ok) hh mode (.inr rfl) hh.1.2.2
      (by simp [State.carryOut, State.doStateRead, State.replyRead, hd])
  | none =>
    exact State.hear_request_answered index fromField _ (st := .range) hh mode (.inr rfl) hh.1.2.2
      (by simp [State.carryOut, State.doStateRead, State.replyRead, hd])

/-! ## The data of the reads -/

/-- Consecutive records as one list of bytes: their number, then each from the first on. -/
theorem countedRecords_consecutive (start fit size : Nat) (f : Nat → List Byte) :
    countedRecords ((consecutive start fit size).map f)
      = byte (min fit (size - start)) :: (List.range (min fit (size - start))).flatMap fun j => f (start + j) := by
  simp [countedRecords, consecutive, List.flatMap, Function.comp_def]

theorem countedRecords_singleton (x : List Byte) : countedRecords [x] = 1 :: x := by
  simp [countedRecords, byte]

theorem State.readBacklog_eq (s : State) (i : Nat) :
    s.readBacklog i = [byte s.backlog.length] ++ be16 s.nextOrderId ++ be32 s.creationCount
      ++ [byte (min 5 (s.backlog.length - i))] ++ ((s.backlog.zipIdx.drop i).take 5).flatMap fun x => x.1.bytes x.2 := by
  simp [State.readBacklog, countedRecords, List.flatMap]

/-- Settles O46: each read by its data, where its index is in the table and where it is not. -/
theorem readsReturnTablesAndState : Obligations.ReadsReturnTablesAndState := by
  intro e i k skipped a b s hh
  have table (x : TableRead) (c : Instr) (hc : exec c s = .next (s.hearRequest e 0 0 (.tableRead x))) :
      exec c s = .next (readAnswer s e 8 (s.tableReadData x)) := by rw [hc, State.hear_tableRead x hh]
  have state (index fromField : Nat) (x : StateRead) (c : Instr)
      (hc : exec c s = .next (s.hearRequest e index fromField (.stateRead x))) :
      exec c s = .next (readAnswer s e 9 (s.stateReadData x)) := by rw [hc, State.hear_stateRead _ _ x hh]
  refine ⟨?_, ?_, ?_, ?_, ?_, ?_, ?_, ?_, ?_, ?_, ?_, ?_, ?_, ?_, ?_, ?_, ?_, ?_, ?_⟩
  · intro hi
    rw [table _ _ rfl]
    simp only [State.tableReadData, Config.slotCount, hi, if_true, readAnswer, countedRecords_consecutive]
  · intro hi
    rw [table _ _ rfl]
    simp only [State.tableReadData, Config.slotCount, Nat.not_lt.mpr hi, if_false, readAnswer]
  · intro hi
    have fit : min 8 (8 - i) = 8 - i := by omega
    rw [table _ _ rfl]
    simp only [State.tableReadData, Config.routeCount, hi, if_true, readAnswer, countedRecords_consecutive, fit]
  · intro hi
    rw [table _ _ rfl]
    simp only [State.tableReadData, Config.routeCount, Nat.not_lt.mpr hi, if_false, readAnswer]
  · intro hi hk
    have fit : min 24 (24 - k) = 24 - k := by omega
    rw [table _ _ rfl]
    simp only [State.tableReadData, Config.routeCount, Config.stopStorage, hi, hk, and_self, if_true, readAnswer,
      countedRecords_consecutive, fit]
  · intro beyond
    have out : ¬ (i < 8 ∧ k < 24) := by omega
    rw [table _ _ rfl]
    simp only [State.tableReadData, Config.routeCount, Config.stopStorage, out, if_false, readAnswer]
  · rw [table _ _ rfl]
    simp only [State.tableReadData, if_true, readAnswer, countedRecords_singleton, LineConfig.bytes]
    rfl
  · rw [table _ _ rfl]
    simp only [State.tableReadData, if_true, readAnswer, countedRecords_singleton]
  · intro hi
    rw [state _ _ _ _ rfl]
    simp only [State.stateReadData, Config.slotCount, hi, if_true, readAnswer, State.readSlots,
      countedRecords_consecutive]
  · intro hi
    rw [state _ _ _ _ rfl]
    simp only [State.stateReadData, Config.slotCount, Nat.not_lt.mpr hi, if_false, readAnswer]
  · intro hi
    rw [state _ _ _ _ rfl]
    simp only [State.stateReadData, Config.routeCount, hi, if_true, readAnswer]
  · intro hi
    rw [state _ _ _ _ rfl]
    simp only [State.stateReadData, Config.routeCount, Nat.not_lt.mpr hi, if_false, readAnswer]
  · intro hi
    rw [state _ _ _ _ rfl]
    simp only [State.stateReadData, Config.backlogSize, hi, if_true, readAnswer, State.readBacklog_eq]
  · intro hi
    rw [state _ _ _ _ rfl]
    simp only [State.stateReadData, Config.backlogSize, Nat.not_lt.mpr hi, if_false, readAnswer]
  · intro hi free
    rw [state _ _ _ _ rfl]
    simp only [State.stateReadData, Config.recordCount, hi, if_true, readAnswer, State.readRecord, free]
  · intro hi kept live
    constructor
    · rw [state _ _ _ _ rfl]
      simp only [State.stateReadData, Config.recordCount, hi, if_true, readAnswer, State.readRecord, live]
      rfl
    · rw [state _ _ _ _ rfl]
      simp only [State.stateReadData, Config.recordCount, hi, if_true, readAnswer, State.readRecord, live]
      rfl
  · intro hi
    rw [state _ _ _ _ rfl]
    simp only [State.stateReadData, Config.recordCount, Nat.not_lt.mpr hi, if_false, readAnswer]
  · rw [state _ _ _ _ rfl]
    simp only [State.stateReadData, readAnswer, State.readLine, LineState.codeAndSince, yesNo]
    cases s.lineState <;> rfl
  · rw [state _ _ _ _ rfl]
    simp only [State.stateReadData, readAnswer, State.readPart]
    cases s.mode <;> cases s.store <;> rfl

/-! ## Writes of the route table -/

/-- A table write reports no slot: it derives no lamp (R19). -/
@[simp] theorem State.tableWrite_reported (s : State) (w : TableWrite) : (s.tableWrite w).1.reported = s.reported := by
  cases w <;> simp only [State.tableWrite] <;> (try split) <;> rfl

/-- A table write that waits for no store operation is answered with the outcome of its checks (R163, R167). -/
theorem State.hear_tableWrite {s : State} {e : Envelope} (w : TableWrite) (hh : s.hearsServer e) (idle : s.storeOp = none) :
    s.hearRequest e 0 0 (.tableWrite w) = (s.tableWrite w).1.answered e 7 (s.tableWrite w).2.code [] :=
  State.hear_request_answered 0 0 _ hh (RequestKind.modeRefusal_none hh.1.2.1 (by simp [Request.kind])) (.inl idle)
    (by rw [State.tableWrite_reported]; exact hh.1.2.2) rfl

theorem State.tableWrite_route_refused {s : State} {i : Nat} {w : RouteRecord} {st : Status} (no : st ≠ .ok)
    (h : s.routeWriteStatus i w = st) : s.tableWrite (.route i w) = (s, st) := by
  simp [State.tableWrite, h, no]

theorem State.tableWrite_route_taken {s : State} {i : Nat} {w : RouteRecord} (h : s.routeWriteStatus i w = .ok) :
    s.tableWrite (.route i w) = (s.writeRoute i w, .ok) := by
  simp [State.tableWrite, h]

theorem State.tableWrite_stops_refused {s : State} {r k offset marker : Nat} {st : Status} (no : st ≠ .ok)
    (h : s.stopsWriteStatus r k offset marker = st) : s.tableWrite (.stops r k offset marker) = (s, st) := by
  simp [State.tableWrite, h, no]

theorem State.tableWrite_stops_taken {s : State} {r k offset marker : Nat}
    (h : s.stopsWriteStatus r k offset marker = .ok) :
    s.tableWrite (.stops r k offset marker) = (s.writeStop r k offset marker, .ok) := by
  simp [State.tableWrite, h]

/-- The stop entries after one is written (R41). -/
theorem setStop_getElem? (stops : Vector StopEntry 24) (k j offset marker : Nat) :
    (setStop stops k offset marker)[j]?
      = if j = k ∧ k < 24 then some { offset := offset, marker := some marker } else stops[j]? := by
  unfold setStop modifyAt
  by_cases hk : k < 24
  · by_cases hj : j = k
    · subst hj
      simp [hk]
    · simp [hk, hj, Ne.symm hj]
  · simp [hk]

/-- Settles O44: the outcome of the checks in each case, and what a taken write leaves. -/
theorem routeWritesNeedDisabledRoute : Obligations.RouteWritesNeedDisabledRoute := by
  intro e i w k offset marker s hh idle fits entry stored
  have route (st : Status) (t : State) (h : s.tableWrite (.route i w) = (t, st)) :
      exec (.tableWriteRoute e i w) s = .next (t.answered e 7 st.code []) := by
    have := State.hear_tableWrite (.route i w) hh idle
    rw [h] at this
    exact congrArg _ this
  have stops (st : Status) (t : State) (h : s.tableWrite (.stops i k offset marker) = (t, st)) :
      exec (.tableWriteStops e i k offset marker) s = .next (t.answered e 7 st.code []) := by
    have := State.hear_tableWrite (.stops i k offset marker) hh idle
    rw [h] at this
    exact congrArg _ this
  refine ⟨fun no => ?_, fun yes busy => ?_, fun yes free => ?_, fun no => ?_, fun yes busy => ?_, fun yes free => ?_⟩
  · exact route .range s (State.tableWrite_route_refused (by decide) (if_pos no))
  · refine route .routeBusy s (State.tableWrite_route_refused (by decide) ?_)
    rw [State.routeWriteStatus, if_neg (fun no => no yes), if_pos busy]
  · have taken : s.routeWriteStatus i w = .ok := by
      rw [State.routeWriteStatus, if_neg (fun no => no yes), if_neg (by simp [free])]
    exact route .ok _ (State.tableWrite_route_taken taken)
  · exact stops .range s (State.tableWrite_stops_refused (by decide) (if_pos no))
  · refine stops .routeBusy s (State.tableWrite_stops_refused (by decide) ?_)
    rw [State.stopsWriteStatus, if_neg (fun no => no yes), if_pos busy]
  · have taken : s.stopsWriteStatus i k offset marker = .ok := by
      rw [State.stopsWriteStatus, if_neg (fun no => no yes), if_neg (by simp [free])]
    have hi : i < 8 := yes.1
    have hk : k < 24 := yes.2.1
    have written (q : Nat) : (s.writeStop i k offset marker).route q
        = if q = i ∧ i < 8 then { s.route i with stops := setStop (s.route i).stops k offset marker } else s.route q :=
      State.route_modRoute s i q _
    refine ⟨s.writeStop i k offset marker, stops .ok _ (State.tableWrite_stops_taken taken), ?_, fun j hj => ?_, ?_,
      fun q hq => ?_, rfl⟩
    · rw [written, if_pos ⟨rfl, hi⟩]
      exact (setStop_getElem? _ k k offset marker).trans (if_pos ⟨rfl, hk⟩)
    · simp [written, hi, hj, setStop_getElem?]
    · simp [written, hi]
    · simp [written, hq]

end Sys2Proof.Machine
end

section
/-! The tour boards: what each operation of the Route Unit and of the Planner makes of a route's record, and what it leaves
(R46, R49, R54, R61 to R66, R84 to R86). -/

namespace Sys2Proof.Machine

/-! ## Sums of time -/

theorem satAdd_eq (a b : Nat) : satAdd a b = min (a + b) 4294967295 := rfl

theorem satAdd_satAdd (a b c : Nat) : satAdd (satAdd a b) c = satAdd a (b + c) := by
  simp only [satAdd_eq]
  omega

theorem State.unitTicks_eq (s : State) (r n : Nat) : s.unitTicks r n = n * s.unit r := by
  unfold State.unitTicks State.unit
  cases (s.route r).cfg.timing <;> rfl

/-! ## Routes, trains and slots that an operation leaves -/

@[simp] theorem State.route_noteMarks (s : State) (old new : List Entry) (r : Nat) :
    (s.noteMarks old new).route r = s.route r := by rw [State.noteMarks_eq]; rfl
@[simp] theorem State.train_noteMarks (s : State) (old new : List Entry) (r : Nat) :
    (s.noteMarks old new).train r = s.train r := by rw [State.noteMarks_eq]; rfl
@[simp] theorem State.slot_noteMarks (s : State) (old new : List Entry) (i : Nat) :
    (s.noteMarks old new).slot i = s.slot i := by rw [State.noteMarks_eq]; rfl
@[simp] theorem State.route_startTour (s : State) (r q : Nat) (t : Tour) : (s.startTour r t).route q = s.route q := by
  rw [State.startTour_eq]; rfl

/-- A publication leaves every route (R65). -/
@[simp] theorem State.route_publish (s : State) (r q : Nat) (t : Tour) : (s.publish r t).route q = s.route q := by
  unfold State.publish
  dsimp only
  rw [State.emits_eq]
  rfl

theorem State.route_modHead (s : State) (r q : Nat) (f : Tour → Tour) :
    (s.modHead r f).route q
      = if q = r ∧ r < 8 then { s.route r with waiting := (s.route r).waiting.modifyHead f } else s.route q :=
  State.route_modRoute s r q _

/-- A route above 7 reads back blank (R37). -/
theorem State.route_beyond (s : State) {r : Nat} (h : ¬ r < 8) : s.route r = Route.blank := by
  simp [State.route, Vector.getD, h]

/-- A board with a tour is that of one of the eight routes (R55). -/
theorem State.lt_of_waiting {s : State} {r : Nat} {h : Tour} {rest : List Tour} (hw : (s.route r).waiting = h :: rest) :
    r < 8 := by
  refine Decidable.byContradiction fun beyond => ?_
  rw [s.route_beyond beyond] at hw
  exact absurd hw (by simp [Route.blank])

/-! ## Operations of one board -/

/-- Of a route's record the waiting list and the next tour number change at most. -/
def State.KeepsRecord (s t : State) (r : Nat) : Prop :=
  t.route r = { s.route r with waiting := (t.route r).waiting, nextTour := (t.route r).nextTour }

theorem State.KeepsRecord.of_route {s t : State} {r : Nat} (h : t.route r = s.route r) : s.KeepsRecord t r := by
  rw [State.KeepsRecord, h]

theorem State.KeepsRecord.trans {s t u : State} {r : Nat} (h : s.KeepsRecord t r) (h' : t.KeepsRecord u r) :
    s.KeepsRecord u r := by
  unfold State.KeepsRecord at h h'
  rw [h] at h'
  exact h'

theorem State.KeepsRecord.cfg {s t : State} {r : Nat} (h : s.KeepsRecord t r) : (t.route r).cfg = (s.route r).cfg := by
  rw [h]; rfl

theorem State.KeepsRecord.count {s t : State} {r : Nat} (h : s.KeepsRecord t r) :
    (t.route r).count = (s.route r).count := by rw [h]

theorem State.KeepsRecord.running {s t : State} {r : Nat} (h : s.KeepsRecord t r) :
    (t.route r).running = (s.route r).running := by rw [h]

/-- An operation of the board of route r: no other route changes, and of route r the waiting list and the next tour number
alone. -/
structure State.TurnsBoard (s t : State) (r : Nat) : Prop where
  others : ∀ q, q ≠ r → t.route q = s.route q
  record : s.KeepsRecord t r

theorem State.TurnsBoard.of_routes {s t : State} (h : ∀ q, t.route q = s.route q) (r : Nat) : s.TurnsBoard t r :=
  ⟨fun q _ => h q, .of_route (h r)⟩

theorem State.TurnsBoard.refl (s : State) (r : Nat) : s.TurnsBoard s r := .of_routes (fun _ => rfl) r

theorem State.TurnsBoard.trans {s t u : State} {r : Nat} (h : s.TurnsBoard t r) (h' : t.TurnsBoard u r) :
    s.TurnsBoard u r where
  others q hq := (h'.others q hq).trans (h.others q hq)
  record := h.record.trans h'.record

/-- A change of a route's waiting list and next tour number is an operation of its board. -/
theorem State.modRoute_turnsBoard (s : State) (r : Nat) (f : Route → Route)
    (hf : ∀ ro, f ro = { ro with waiting := (f ro).waiting, nextTour := (f ro).nextTour }) :
    s.TurnsBoard (s.modRoute r f) r where
  others q hq := by rw [State.route_modRoute, if_neg (fun h => hq h.1)]
  record := by
    rw [State.KeepsRecord, State.route_modRoute]
    split
    · exact hf _
    · rfl

theorem State.modHead_turnsBoard (s : State) (r : Nat) (f : Tour → Tour) : s.TurnsBoard (s.modHead r f) r :=
  s.modRoute_turnsBoard r _ fun _ => rfl

/-! ## Marks (R61) -/

/-- What follows an evaluation raises LATE_ORDER at most (R61). -/
theorem State.noteMarks_alertsOnce (s : State) (old new : List Entry) :
    s.alertsOnce (s.noteMarks old new) .lateOrder := by
  have quiet (x : State) (is : List Nat) : x.alertsOnce (x.reportAll is) .lateOrder :=
    .of_sends_nil (.of_link (by rfl) (by rfl) (by rfl) (by rfl)) _
  unfold State.noteMarks
  dsimp only
  split
  · exact (s.raise_alertsOnce .lateOrder).trans (quiet _ _)
  · exact quiet _ _

/-- A tour with no entry has no mark to set. -/
theorem State.noteMarks_nil (s : State) : s.noteMarks [] [] = s := by
  simp [State.noteMarks, State.reportAll]

theorem zip_map_self {α β : Type} (l : List α) (f : α → β) : l.zip (l.map f) = l.map fun x => (x, f x) := by
  induction l with
  | nil => rfl
  | cons x xs ih => simp [ih]

/-- A mark newly set raises LATE_ORDER (R61). -/
theorem State.noteMarks_flagSet (s : State) (es : List Entry) (f : Entry → Entry)
    (h : ∃ e ∈ es, e.late = false ∧ (f e).late = true) : (s.noteMarks es (es.map f)).flagSet .lateOrder = true := by
  have newly : (es.zip (es.map f)).any (fun p => !p.1.late && p.2.late) = true := by
    obtain ⟨e, he, was, is⟩ := h
    rw [zip_map_self]
    exact List.any_eq_true.mpr ⟨(e, f e), List.mem_map.mpr ⟨e, he, rfl⟩, by simp [was, is]⟩
  unfold State.noteMarks
  simp only [newly, if_true]
  exact s.raise_flagSet .lateOrder

/-! ## The cutoff (R46, R64) -/

/-- The head of a route as the cutoff leaves it: a held head stays, any other takes its departure, and a PLANNED one is
FROZEN. -/
def Tour.passesCutoff (ro : Route) (departure : Nat) (h : Tour) : Tour :=
  if h.held then h
  else if h.state = .planned then (h.atCutoff ro departure).frozen
  else h.atCutoff ro departure

/-- The departure a cutoff sets: now plus count times unit. -/
def State.cutoffTime (s : State) (r : Nat) : Nat := satAdd s.pt ((s.route r).count * s.unit r)

/-- The LATE mark of an entry whose tour takes a departure at the cutoff (R46, R61). -/
def Tour.markAt (h : Tour) (ro : Route) (departure : Nat) (e : Entry) : Entry :=
  if departure ≠ h.plannedDeparture ∧ e.isOpen = true
  then { e with late := decide (e.due < Tour.arrival { h with plannedDeparture := departure } ro e.stop) } else e

theorem Tour.atCutoff_eq (h : Tour) (ro : Route) (departure : Nat) :
    h.atCutoff ro departure
      = { h with plannedDeparture := departure, entries := h.entries.map (h.markAt ro departure) } := by
  unfold Tour.atCutoff
  split
  · rename_i same
    have unmarked : h.entries.map (h.markAt ro departure) = h.entries := by
      rw [show h.markAt ro departure = id from funext fun e => if_neg fun c => c.1 same]
      simp
    rw [unmarked, same]
  · rename_i changed
    have marks : h.entries.map (h.markAt ro departure) = h.entries.map
        (fun e => e.evalLate (Tour.arrival { h with plannedDeparture := departure } ro e.stop)) := by
      refine List.map_congr_left fun e _ => ?_
      simp only [Tour.markAt, Entry.evalLate, ne_eq, changed, not_false_eq_true, true_and]
    rw [marks]
    rfl

theorem Tour.markAt_orderId (h : Tour) (ro : Route) (d : Nat) (e : Entry) : (h.markAt ro d e).orderId = e.orderId := by
  unfold Tour.markAt
  split <;> rfl

theorem Tour.markAt_number (h : Tour) (ro : Route) (d : Nat) (e : Entry) : (h.markAt ro d e).number = e.number := by
  unfold Tour.markAt
  split <;> rfl

/-- A tour's arrivals depend on its route by the stored stops alone (R60). -/
theorem Tour.arrival_congr (t : Tour) {ro ro' : Route} (h : ro.stops = ro'.stops) : t.arrival ro = t.arrival ro' := by
  funext stop
  unfold Tour.arrival
  rw [h]

/-- What the cutoff makes of a head depends on its route by the stored stops alone. -/
theorem Tour.passesCutoff_congr {ro ro' : Route} (h : ro.stops = ro'.stops) (departure : Nat) :
    Tour.passesCutoff ro departure = Tour.passesCutoff ro' departure := by
  funext t
  unfold Tour.passesCutoff Tour.atCutoff Tour.evaluate
  simp only [Tour.arrival_congr _ h]

/-- The freeze changes its route's head (R64). -/
theorem State.route_freeze (s : State) (r q : Nat) : (s.freeze r).route q = (s.modHead r Tour.frozen).route q := by
  unfold State.freeze
  split
  · rename_i empty
    rw [State.route_modHead]
    split
    · rename_i hq
      rw [hq.1, empty, List.modifyHead_nil, ← empty]
    · rfl
  · exact State.route_publish _ _ _ _

/-- The cutoff changes its route's head (R46). -/
theorem State.route_cutoff (s : State) (r q : Nat) :
    (s.cutoff r).route q = (s.modHead r (Tour.passesCutoff (s.route r) (s.cutoffTime r))).route q := by
  unfold State.cutoff
  split
  · rename_i empty
    rw [State.route_modHead]
    split
    · rename_i hq
      rw [hq.1, empty, List.modifyHead_nil, ← empty]
    · rfl
  · rename_i h rest hw
    have hr := State.lt_of_waiting hw
    simp only [State.route_modHead, hw, List.modifyHead_cons, Tour.passesCutoff, State.cutoffTime]
    split
    · split
      · rename_i hq
        rw [hq.1, ← hw]
      · rfl
    · split
      · rw [State.route_freeze]
        by_cases hq : q = r <;> simp [State.route_modHead, hq, hr, hw]
      · by_cases hq : q = r <;> simp [State.route_modHead, hq, hr, hw]

theorem State.cutoff_turnsBoard (s : State) (r : Nat) : s.TurnsBoard (s.cutoff r) r :=
  (s.modHead_turnsBoard r _).trans (.of_routes (s.route_cutoff r) r)

theorem State.cutoffIfDue_turnsBoard (s : State) (r : Nat) : s.TurnsBoard (s.cutoffIfDue r) r := by
  unfold State.cutoffIfDue
  split
  · exact s.cutoff_turnsBoard r
  · exact .refl s r

/-! ## Drains (R86) -/

/-- A tour without its entries. -/
def Tour.bare (t : Tour) : Tour := { t with entries := [] }

@[simp] theorem Tour.bare_insert (t : Tour) (e : Entry) : (t.insert e).bare = t.bare := rfl

/-- What is read of tours but their entries agrees where the bare tours do. -/
theorem map_of_map_bare {α : Type} {l l' : List Tour} (f : Tour → α) (hf : ∀ t, f t.bare = f t)
    (h : l.map Tour.bare = l'.map Tour.bare) : l.map f = l'.map f := by
  have through (x : List Tour) : x.map f = (x.map Tour.bare).map f := by
    simp [Function.comp_def, hf]
  rw [through, h, ← through]

/-- An operation that fills waiting tours of some routes: no other route changes, and of these routes the entries of waiting
tours alone. -/
structure State.FillsTours (s t : State) (rs : List Nat) : Prop where
  others : ∀ q, q ∉ rs → t.route q = s.route q
  record : ∀ q, t.route q = { s.route q with waiting := (t.route q).waiting }
  tours : ∀ q, (t.route q).waiting.map Tour.bare = (s.route q).waiting.map Tour.bare

theorem State.FillsTours.of_routes {s t : State} (h : ∀ q, t.route q = s.route q) (rs : List Nat) : s.FillsTours t rs :=
  ⟨fun q _ => h q, fun q => by rw [h q], fun q => by rw [h q]⟩

theorem State.FillsTours.trans {s t u : State} {rs : List Nat} (h : s.FillsTours t rs) (h' : t.FillsTours u rs) :
    s.FillsTours u rs where
  others q hq := (h'.others q hq).trans (h.others q hq)
  record q := by
    have first := h.record q
    have second := h'.record q
    rw [first] at second
    exact second
  tours q := (h'.tours q).trans (h.tours q)

theorem State.FillsTours.keepsRecord {s t : State} {rs : List Nat} (h : s.FillsTours t rs) (r : Nat) :
    s.KeepsRecord t r := by
  have record := h.record r
  rw [State.KeepsRecord, record]

/-- A drain over one route is an operation of its board. -/
theorem State.FillsTours.turnsBoard {s t : State} {r : Nat} (h : s.FillsTours t [r]) : s.TurnsBoard t r where
  others q hq := h.others q (by simpa using hq)
  record := h.keepsRecord r

/-- Placing an order fills a tour of its slot's route (R85). -/
theorem State.place_fillsTours (s : State) (o : Order) (k : Nat) (rs : List Nat)
    (h : (s.slot o.slot).config.route ∈ rs) : s.FillsTours (s.place o k) rs := by
  unfold State.place
  dsimp only
  generalize hr : (s.slot o.slot).config.route = r at h ⊢
  split
  · exact .of_routes (fun _ => rfl) rs
  · rename_i t _
    have filled : s.FillsTours
        (s.modRoute r fun ro => { ro with waiting := ro.waiting.modify k fun x => x.insert (s.entryFor o t) }) rs := by
      refine ⟨fun q hq => ?_, fun q => ?_, fun q => ?_⟩ <;> rw [State.route_modRoute]
      · rw [if_neg (fun c : q = r ∧ r < 8 => hq (c.1 ▸ h))]
      · split
        · rename_i hq
          rw [hq.1]
        · rfl
      · split
        · rename_i hq
          rw [hq.1]
          refine List.ext_getElem? fun j => ?_
          by_cases hj : k = j
          · simp [hj, Function.comp_def]
          · simp [hj]
        · rfl
    split
    · exact filled.trans (.of_routes (fun q => by simp) rs)
    · exact filled

theorem State.offerOrders_fillsTours (rs : List Nat) (os : List Order) (s : State) :
    s.FillsTours (State.offerOrders rs os s) rs := by
  induction os generalizing s with
  | nil => exact .of_routes (fun _ => rfl) rs
  | cons o os ih =>
    unfold State.offerOrders
    split
    · rename_i on
      have mem : (s.slot o.slot).config.route ∈ rs := by simpa using on
      split
      · rename_i k _
        have withdrawn : s.FillsTours { s with backlog := s.backlog.erase o } rs := .of_routes (by intro; rfl) rs
        exact (withdrawn.trans (State.place_fillsTours _ o k rs mem)).trans (ih _)
      · exact ih s
    · exact ih s

theorem State.drain_fillsTours (s : State) (rs : List Nat) : s.FillsTours (s.drain rs) rs :=
  State.offerOrders_fillsTours rs s.backlog s

theorem State.drain_turnsBoard (s : State) (r : Nat) : s.TurnsBoard (s.drain [r]) r := (s.drain_fillsTours [r]).turnsBoard

/-! ## Appending (R54, R62) -/

theorem State.appendTour_turnsBoard (s : State) (r : Nat) : s.TurnsBoard (s.appendTour r) r :=
  s.modRoute_turnsBoard r _ fun _ => rfl

theorem State.appendUpTo_turnsBoard (r n : Nat) (s : State) : s.TurnsBoard (State.appendUpTo r n s) r := by
  induction n generalizing s with
  | zero => exact .refl s r
  | succ n ih =>
    unfold State.appendUpTo
    split
    · exact (s.appendTour_turnsBoard r).trans (ih _)
    · exact .refl s r

theorem State.appendTours_turnsBoard (s : State) (r : Nat) : s.TurnsBoard (s.appendTours r) r := by
  unfold State.appendTours
  split
  · exact State.appendUpTo_turnsBoard r _ s
  · exact .refl s r

theorem State.afterHead_turnsBoard (s : State) (r : Nat) : s.TurnsBoard (s.afterHead r) r :=
  ((s.appendTours_turnsBoard r).trans (State.drain_turnsBoard _ r)).trans (State.cutoffIfDue_turnsBoard _ r)

/-! ## Re-timing (R49, R74) -/

/-- The waiting tours of a route, each given the planned departure its position has. -/
def retimed (ro : Route) (f : Nat → Tour → Nat) : List Tour :=
  ro.waiting.zipIdx.map fun c => c.1.atCutoff ro (f c.2 c.1)

theorem State.route_retimeTours (s : State) (r q : Nat) (f : Nat → Tour → Nat) :
    (s.retimeTours r f).route q
      = if q = r ∧ r < 8 then { s.route r with waiting := retimed (s.route r) f } else s.route q := by
  unfold State.retimeTours
  dsimp only
  rw [State.route_noteMarks, State.route_modRoute]
  rfl

theorem State.retimeTours_turnsBoard (s : State) (r : Nat) (f : Nat → Tour → Nat) :
    s.TurnsBoard (s.retimeTours r f) r where
  others q hq := by rw [State.route_retimeTours, if_neg (fun h => hq h.1)]
  record := by
    rw [State.KeepsRecord, State.route_retimeTours]
    split <;> rfl

end Sys2Proof.Machine
end

section
/-! The server's requests on one route: ROUTE_RELOAD, ROUTE_ENABLE and ROUTE_DISABLE (R48 to R52, R62). -/

namespace Sys2Proof.Machine

/-! ## The end of an answered event -/

/-- An answered event that ends with its lamp derivations changes the stored lamps, LU's fields, the flags and the draw counter. -/
theorem State.answered_settleLamps_eq (x : State) (e : Envelope) (kind st : Nat) (data : List Byte) :
    (x.answered e kind st data).settleLamps = { x with
      slots := (x.answered e kind st data).settleLamps.slots, reported := [],
      draws := (x.answered e kind st data).settleLamps.draws, flags := (x.answered e kind st data).settleLamps.flags,
      forwardQueue := (x.answered e kind st data).settleLamps.forwardQueue,
      emitQueue := (x.answered e kind st data).settleLamps.emitQueue,
      ringOut := (x.answered e kind st data).settleLamps.ringOut,
      burst := (x.answered e kind st data).settleLamps.burst } := by
  unfold State.answered
  rw [State.settleLamps_eq, State.emit_eq]

@[simp] theorem State.route_answered_settleLamps (x : State) (e : Envelope) (kind st : Nat) (data : List Byte) (q : Nat) :
    (x.answered e kind st data).settleLamps.route q = x.route q := by simp [State.answered]

@[simp] theorem State.train_answered_settleLamps (x : State) (e : Envelope) (kind st : Nat) (data : List Byte) (q : Nat) :
    (x.answered e kind st data).settleLamps.train q = x.train q := by simp [State.answered]

/-- An answered event leaves every slot but for its stored lamp where what it did before leaves the slot table. -/
theorem State.slot_answered_settleLamps {s x : State} (h : x.slots = s.slots) (e : Envelope) (kind st : Nat)
    (data : List Byte) (i : Nat) :
    (x.answered e kind st data).settleLamps.slot i
      = { s.slot i with lamp := ((x.answered e kind st data).settleLamps.slot i).lamp } := by
  have same : (x.answered e kind st data).slot i = s.slot i := by simp [State.answered, State.slot, h]
  rw [← same]
  exact State.settleLamps_slot _ i

/-! ## The checks -/

theorem State.routeStatus_range {s : State} {r : Nat} (h : 8 ≤ r) : s.routeStatus r = .range := by
  exact if_pos (Nat.not_lt.mpr h)

theorem State.routeStatus_state {s : State} {r : Nat} (hr : r < 8) (h : (s.route r).config = none) :
    s.routeStatus r = .state := by
  rw [State.routeStatus, if_neg (fun no => no hr), if_pos (by simp [h])]

theorem State.routeStatus_ok {s : State} {r : Nat} (hr : r < 8) (h : (s.route r).config.isSome) :
    s.routeStatus r = .ok := by
  rw [State.routeStatus, if_neg (fun no => no hr), if_neg (by simpa using Option.isSome_iff_ne_none.mp h)]

/-- A request on a route is carried out, and the event ends (R152, R163). -/
theorem State.hear_routeRequest {s : State} {e : Envelope} (q : Request) (hh : s.hearsServer e)
    (hq : q.kind ∈ [.routeEnable, .routeDisable, .routeReload]) :
    s.hearRequest e 0 0 q
      = (s.carryOut { src := e.src, kind := byte q.kind.code, number := byte e.number } q).settleLamps := by
  refine State.hear_request_taken 0 0 q hh (RequestKind.modeRefusal_none hh.1.2.1 ?_) (.inr ?_)
  · revert hq
    cases q.kind <;> decide
  · revert hq
    cases q.kind <;> decide

/-! ## ROUTE_RELOAD -/

/-- Re-timing sets planned departures (R49). -/
theorem retimed_plannedDeparture (ro : Route) (f : Nat → Tour → Nat) :
    (retimed ro f).map Tour.plannedDeparture = ro.waiting.zipIdx.map fun c => f c.2 c.1 := by
  simp [retimed, Tour.atCutoff_eq, Function.comp_def]

/-- Re-timing keeps the tours and their order. -/
theorem retimed_number (ro : Route) (f : Nat → Tour → Nat) :
    (retimed ro f).map Tour.number = ro.waiting.map Tour.number := by
  calc (retimed ro f).map Tour.number = (ro.waiting.zipIdx.map Prod.fst).map Tour.number := by
        simp only [retimed, Tour.atCutoff_eq, List.map_map]
        rfl
    _ = ro.waiting.map Tour.number := by simp

/-- The planned departures a reload gives a board: a held head's stays, and each tour else stands one more period on (R49). -/
theorem rebased_board (now period unit : Nat) (head : Tour) (behind : List Tour) :
    (head :: behind).zipIdx.map (fun c => rebased now period unit head.held c.2 c.1)
      = (if head.held then head.plannedDeparture else satAdd now (period * unit))
        :: (List.range behind.length).map fun k => satAdd now ((if head.held then k + 1 else k + 2) * period * unit) := by
  have tail : (behind.zipIdx 1).map (fun c => rebased now period unit head.held c.2 c.1)
      = (List.range behind.length).map fun k =>
          satAdd now ((if head.held then k + 1 else k + 2) * period * unit) := by
    refine List.ext_getElem (by simp) fun k _ _ => ?_
    simp [rebased, Nat.add_comm 1 k]
    cases head.held <;> simp
  simp only [List.zipIdx_cons, List.map_cons, tail, Nat.zero_add]
  cases head.held <;> simp [rebased]

/-- Settles O49: the checks, then the reload; in RUN the tours take the departures of the table of R49. -/
theorem reloadRebasesTours : Obligations.ReloadRebasesTours := by
  intro e r s hh
  have carried : exec (.routeReload e r) s = .next (((if s.routeStatus r = .ok then s.reloadRoute r else s).answered e 12
      (s.routeStatus r).code []).settleLamps) := by
    have := State.hear_routeRequest (.routeReload r) hh (by simp [Request.kind])
    rw [State.carryOut, State.doRouteReload, State.reply_answered] at this
    exact congrArg _ this
  refine ⟨fun hr => ?_, fun hr hc => ?_, fun hr hc => ⟨fun quiet => ?_, fun run on => ?_⟩⟩
  · rw [carried, State.routeStatus_range hr, if_neg (by decide), State.answered_settled hh.1.2.2]
    rfl
  · rw [carried, State.routeStatus_state hr hc, if_neg (by decide), State.answered_settled hh.1.2.2]
    rfl
  · have plain : ¬ (s.mode = .run ∧ (s.route r).enabled = true) := by
      rcases quiet with quiet | quiet <;> simp [quiet]
    rw [carried, State.routeStatus_ok hr hc, if_pos rfl, State.reloadRoute, if_neg plain, State.answered_settled]
    · rfl
    · exact hh.1.2.2
  · rw [carried, State.routeStatus_ok hr hc, if_pos rfl, State.reloadRoute, if_pos ⟨run, on⟩]
    dsimp only
    generalize hs1 : s.modRoute r (fun ro => { ro with count := ro.cfg.period }) = s1
    have routes (q : Nat) : s1.route q
        = if q = r ∧ r < 8 then { s.route r with count := (s.route r).cfg.period } else s.route q := by
      rw [← hs1, State.route_modRoute]
    generalize hf : rebased s.pt (s.route r).cfg.period (s.unit r) ((s.route r).waiting.head?.any Tour.held) = f
    have retimes (q : Nat) : (s1.retimeTours r f).route q = if q = r ∧ r < 8 then
        { s.route r with count := (s.route r).cfg.period, waiting := retimed (s.route r) f } else s.route q := by
      rw [State.route_retimeTours, routes, routes]
      by_cases hq : q = r <;> simp [hq, hr, retimed, Tour.atCutoff, Tour.evaluate, Tour.arrival]
    refine ⟨_, rfl, fun head behind hw => ?_, ?_, ?_, fun q hq => ?_, State.slot_answered_settleLamps ?_ _ _ _ _, ?_⟩
    · have held : (s.route r).waiting.head?.any Tour.held = head.held := by simp [hw]
      rw [State.route_answered_settleLamps, retimes, if_pos ⟨rfl, hr⟩, retimed_plannedDeparture, ← hf, held, hw,
        rebased_board]
      simp only [satAdd_eq, State.unitTicks_eq]
    · rw [State.route_answered_settleLamps, retimes, if_pos ⟨rfl, hr⟩, retimed_number]
    · rw [State.route_answered_settleLamps, retimes, if_pos ⟨rfl, hr⟩]
    · rw [State.route_answered_settleLamps, retimes, if_neg (fun c => hq c.1)]
    · rw [State.retimeTours_eq, ← hs1]
      rfl
    · have settled : s.reported = [] := hh.1.2.2
      rw [State.answered_settleLamps_eq, State.retimeTours_eq, ← hs1]
      simp only [State.modRoute, settled]

/-! ## ROUTE_DISABLE -/

/-- LU reads neither the routes nor the trains. -/
theorem State.emit_of_tables (s : State) (routes : Vector Route 8) (trains : Vector TrainUnit 8) (cls dst : Nat)
    (p : List Byte) :
    State.emit { s with routes := routes, trains := trains } cls dst p
      = { s.emit cls dst p with routes := routes, trains := trains } := by
  unfold State.emit State.kick State.arbitrate State.setFlag
  simp only [State.emitRoom]
  split
  · split
    · split
      · rfl
      · rfl
      · rfl
      · split <;> rfl
    · rfl
  · rfl

theorem State.answered_of_tables (s : State) (routes : Vector Route 8) (trains : Vector TrainUnit 8) (e : Envelope)
    (kind st : Nat) (data : List Byte) :
    State.answered { s with routes := routes, trains := trains } e kind st data
      = { s.answered e kind st data with routes := routes, trains := trains } :=
  State.emit_of_tables s routes trains _ _ _

/-- The orders of rolled-back entries join the backlog (R87). -/
theorem State.rollbacks_backlog (origin : Origin) (es : List Entry) (s : State) :
    (es.foldl (fun x e => x.rollback origin e) s).backlog.Perm (s.backlog ++ es.map fun e => e.toOrder origin) := by
  induction es generalizing s with
  | nil => simp
  | cons e es ih =>
    have joined : (s.rollback origin e).backlog.Perm (e.toOrder origin :: s.backlog) := by
      rw [State.rollback_eq]
      exact insertOrdered_perm _ _ _
    exact (ih _).trans ((joined.append_right _).trans List.perm_middle.symm)

/-- A dissolved board is empty, its orders are in the backlog, and slots are reported (R75). -/
theorem State.dissolve_eq (s : State) (origin : Origin) (r : Nat) :
    s.dissolve origin r = { s.modRoute r (fun ro => { ro with waiting := [] }) with
      backlog := (s.dissolve origin r).backlog, reported := (s.dissolve origin r).reported } :=
  State.rollbacks_eq origin _ _

theorem State.dissolve_backlog (s : State) (origin : Origin) (r : Nat) :
    (s.dissolve origin r).backlog.Perm (s.backlog ++ (s.waitingEntries r).map fun e => e.toOrder origin) :=
  State.rollbacks_backlog origin _ _

theorem State.dissolve_empty {s : State} {r : Nat} (h : s.waitingEntries r = []) (origin : Origin) :
    s.dissolve origin r = s.modRoute r fun ro => { ro with waiting := [] } := by
  rw [State.dissolve, h]
  rfl

/-- Binding records that name no train are UNBOUND (Table 7-1). -/
theorem Binding.eq_unbound {b : Binding} (h : b.trainId = none) : b = .unbound := by
  cases b with
  | unbound => rfl
  | offered => simp [Binding.trainId] at h
  | bound => simp [Binding.trainId] at h

/-- The release of a train changes the trains and what emission changes (R52). -/
theorem State.releaseTrain_eq (s : State) (r : Nat) :
    s.releaseTrain r = { s with
      trains := (s.releaseTrain r).trains, forwardQueue := (s.releaseTrain r).forwardQueue,
      emitQueue := (s.releaseTrain r).emitQueue, ringOut := (s.releaseTrain r).ringOut,
      burst := (s.releaseTrain r).burst, flags := (s.releaseTrain r).flags } := by
  unfold State.releaseTrain State.rejectTrain State.emitTrain
  split
  · rw [State.emit_eq]
    rfl
  · rfl

/-- A released route is UNBOUND, its offer number kept (R52). -/
theorem State.train_releaseTrain (s : State) (r q : Nat) :
    (s.releaseTrain r).train q = if q = r ∧ r < 8 then { s.train r with binding := .unbound } else s.train q := by
  unfold State.releaseTrain State.rejectTrain State.emitTrain
  split
  · rw [State.unbind, State.train_modTrain]
    simp
  · rename_i free
    split
    · rename_i hq
      rw [hq.1, ← Binding.eq_unbound free]
    · rfl

/-- Route r with its board empty and its enable off, before its train is released. -/
def State.closed (s : State) (r : Nat) : State :=
  (s.dissolve .dissolved r).modRoute r fun ro => { ro with enabled := false }

theorem State.route_closed (s : State) (r q : Nat) :
    (s.closed r).route q = if q = r ∧ r < 8 then { s.route r with enabled := false, waiting := [] } else s.route q := by
  have dissolved (q : Nat) : (s.dissolve .dissolved r).route q
      = if q = r ∧ r < 8 then { s.route r with waiting := [] } else s.route q := by
    rw [State.dissolve_eq]
    exact State.route_modRoute s r q _
  rw [State.closed, State.route_modRoute, dissolved, dissolved]
  by_cases hq : q = r ∧ r < 8
  · simp [hq]
  · simp [hq]

theorem State.closed_eq (s : State) (r : Nat) :
    s.closed r = { s with
      routes := (s.closed r).routes, backlog := (s.closed r).backlog, reported := (s.closed r).reported } := by
  unfold State.closed
  rw [State.dissolve_eq]
  rfl

/-- With nothing waiting the train is told and the board closes, and that is all (R52). -/
theorem State.closed_release_empty {s : State} {r train : Nat} (empty : s.waitingEntries r = [])
    (bound : (s.train r).binding.trainId = some train) :
    (s.closed r).releaseTrain r = { s.rejected s.lineConfig.radioBridge r train 0 1 with
      routes := (s.closed r).routes, trains := ((s.closed r).releaseTrain r).trains } := by
  have plain : s.closed r = { s with routes := (s.closed r).routes, trains := s.trains } := by
    rw [State.closed, State.dissolve_empty empty]
    rfl
  have told : (s.closed r).rejectTrain r train 0 .notEnabled
      = { s.rejected s.lineConfig.radioBridge r train 0 1 with routes := (s.closed r).routes, trains := s.trains } := by
    rw [plain]
    exact State.emit_of_tables s _ _ _ _ _
  have names : ((s.closed r).train r).binding.trainId = some train := by rw [plain]; exact bound
  rw [State.releaseTrain, names]
  dsimp only
  rw [told]
  rfl

theorem State.disableStatus_range {s : State} {r : Nat} (h : 8 ≤ r) : s.disableStatus r = .range :=
  if_pos (Nat.not_lt.mpr h)

theorem State.disableStatus_routeBusy {s : State} {r : Nat} (hr : r < 8)
    (h : (s.route r).running.isSome ∨ ∃ head ∈ (s.route r).waiting.head?, head.held = true) :
    s.disableStatus r = .routeBusy := by
  refine (if_neg (fun no => no hr)).trans (if_pos (h.imp_right ?_))
  rintro ⟨head, first, held⟩
  simp [Option.mem_def.mp first, held]

/-- The check of the backlog's room comes once the route is not busy (R51). -/
theorem State.disableStatus_of_free {s : State} {r : Nat} (hr : r < 8)
    (h : ¬ ((s.route r).running.isSome ∨ ∃ head ∈ (s.route r).waiting.head?, head.held = true)) :
    s.disableStatus r = if ¬ s.backlogRoom (s.waitingEntries r).length then .backlogSpace else .ok := by
  have free : ¬ ((s.route r).running.isSome ∨ (s.route r).waiting.head?.any Tour.held = true) := by
    refine fun busy => h (busy.imp_right fun held => ?_)
    simpa [Option.any_eq_true] using held
  exact (if_neg (fun no => no hr)).trans (if_neg free)

theorem State.backlogRoom_iff (s : State) (n : Nat) : s.backlogRoom n = true ↔ s.backlog.length + n ≤ 64 :=
  decide_eq_true_iff

/-- Settles O48: the checks in their order, then the board, the backlog and the train as a taken request leaves them. -/
theorem disableDissolvesTours : Obligations.DisableDissolvesTours := by
  intro e r s hh
  have settled : s.reported = [] := hh.1.2.2
  have carried : exec (.routeDisable e r) s = .next (((if s.disableStatus r = .ok then s.disableRoute r else s).answered e 11
      (s.disableStatus r).code []).settleLamps) := by
    have := State.hear_routeRequest (.routeDisable r) hh (by simp [Request.kind])
    rw [State.carryOut, State.doRouteDisable, State.reply_answered] at this
    exact congrArg _ this
  have ok {hr : r < 8} (free : ¬ ((s.route r).running.isSome ∨ ∃ head ∈ (s.route r).waiting.head?, head.held = true))
      (room : s.backlog.length + ((s.route r).waiting.flatMap Tour.entries).length ≤ 64) : s.disableStatus r = .ok :=
    (State.disableStatus_of_free hr free).trans (if_neg fun no => no ((s.backlogRoom_iff _).mpr room))
  refine ⟨fun hr => ?_, fun hr => ⟨fun busy => ?_, fun free full => ?_, fun free room => ⟨fun off => ?_, fun on => ?_⟩⟩⟩
  · rw [carried, State.disableStatus_range hr, if_neg (by decide), State.answered_settled settled]
    rfl
  · rw [carried, State.disableStatus_routeBusy hr busy, if_neg (by decide), State.answered_settled settled]
    rfl
  · have status : s.disableStatus r = .backlogSpace := (State.disableStatus_of_free hr free).trans
      (if_pos fun room => Nat.not_le.mpr full ((s.backlogRoom_iff _).mp room))
    rw [carried, status, if_neg (by decide), State.answered_settled settled]
    rfl
  · rw [carried, ok (hr := hr) free room, if_pos rfl, State.disableRoute, if_neg (by simp [off]), State.answered_settled settled]
    rfl
  · have taken : exec (.routeDisable e r) s
        = .next (((s.closed r).releaseTrain r).answered e 11 0 []).settleLamps := by
      rw [carried, ok (hr := hr) free room, if_pos rfl, State.disableRoute, if_pos on]
      rfl
    have routes (q : Nat) : ((s.closed r).releaseTrain r).route q
        = if q = r ∧ r < 8 then { s.route r with enabled := false, waiting := [] } else s.route q := by
      rw [State.releaseTrain_eq]
      exact s.route_closed r q
    have trains (q : Nat) : ((s.closed r).releaseTrain r).train q
        = if q = r ∧ r < 8 then { s.train r with binding := .unbound } else s.train q := by
      have kept (q : Nat) : (s.closed r).train q = s.train q := by rw [State.closed_eq]; rfl
      rw [State.train_releaseTrain, kept, kept]
    refine ⟨_, taken, ?_, ?_, fun q hq => ⟨?_, ?_⟩, ?_, fun empty train bound => ?_, State.slot_answered_settleLamps ?_ _ _ _ _,
      ?_⟩
    · rw [State.route_answered_settleLamps, routes, if_pos ⟨rfl, hr⟩]
    · rw [State.train_answered_settleLamps, trains, if_pos ⟨rfl, hr⟩]
    · rw [State.route_answered_settleLamps, routes, if_neg (fun c => hq c.1)]
    · rw [State.train_answered_settleLamps, trains, if_neg (fun c => hq c.1)]
    · rw [State.answered_settleLamps_eq, State.releaseTrain_eq]
      exact s.dissolve_backlog .dissolved r
    · rw [State.closed_release_empty empty bound, State.answered_of_tables, State.settleLamps_settled]
      exact (State.emit_reported _ _ _ _).trans ((State.emit_reported _ _ _ _).trans settled)
    · rw [State.releaseTrain_eq, State.closed_eq]
    · rw [State.answered_settleLamps_eq, State.releaseTrain_eq, State.closed_eq]
      simp only [settled]

end Sys2Proof.Machine
end

section
/-! Boards built on empty waiting lists: the tours appended up to a route's depth, and what the drain and the cutoff leave of
them; ROUTE_ENABLE and START (R50, R53, R62, R64, R92). -/

namespace Sys2Proof.Machine

/-! ## A built board (R62) -/

/-- The planned departure of the tour appended k-th to an empty board: now plus count plus k periods. -/
def State.appendedAt (s : State) (r k : Nat) : Nat :=
  satAdd s.pt (((s.route r).count + k * (s.route r).cfg.period) * s.unit r)

/-- The board of route r holds m waiting tours as they were appended, but for their entries. -/
structure State.BuiltTo (s : State) (r m : Nat) : Prop where
  departures : (s.route r).waiting.map Tour.plannedDeparture = (List.range m).map (s.appendedAt r)
  planned : (s.route r).waiting.map Tour.state = List.replicate m .planned
  free : (s.route r).waiting.map Tour.held = List.replicate m false

/-- The two clocks a planned departure is made from, and the mode, are the same. -/
def State.sameClock (s t : State) : Prop := t.pt = s.pt ∧ t.takt = s.takt ∧ t.mode = s.mode

theorem State.sameClock.trans {s t u : State} (h : s.sameClock t) (h' : t.sameClock u) : s.sameClock u :=
  ⟨h'.1.trans h.1, h'.2.1.trans h.2.1, h'.2.2.trans h.2.2⟩

/-- The departures of appended tours as the statements give them. -/
theorem State.appendedAt_eq (s : State) (r k : Nat) :
    s.appendedAt r k
      = min (s.pt + s.unitTicks r ((s.route r).count + k * (s.route r).cfg.period)) 4294967295 := by
  rw [State.unitTicks_eq]
  rfl

/-- The departures of appended tours depend on the two clocks and on the route's static fields and count. -/
theorem State.appendedAt_congr {s t : State} {r : Nat} (cfg : (t.route r).cfg = (s.route r).cfg)
    (count : (t.route r).count = (s.route r).count) (clock : s.sameClock t) : t.appendedAt r = s.appendedAt r := by
  funext k
  unfold State.appendedAt State.unit
  rw [cfg, count, clock.1, clock.2.1]

theorem State.KeepsRecord.appendedAt {s t : State} {r : Nat} (h : s.KeepsRecord t r) (clock : s.sameClock t) :
    t.appendedAt r = s.appendedAt r := State.appendedAt_congr h.cfg h.count clock

theorem State.BuiltTo.congr {s t : State} {r m : Nat} (h : s.BuiltTo r m) (same : t.route r = s.route r)
    (clock : s.sameClock t) : t.BuiltTo r m := by
  refine ⟨?_, ?_, ?_⟩ <;> rw [same]
  · rw [(State.KeepsRecord.of_route same).appendedAt clock]
    exact h.departures
  · exact h.planned
  · exact h.free

theorem State.BuiltTo.length {s : State} {r m : Nat} (h : s.BuiltTo r m) : (s.route r).waiting.length = m := by
  simpa using congrArg List.length h.departures

/-- A drain fills the tours of a built board and leaves it built (R86). -/
theorem State.BuiltTo.fill {s t : State} {r m : Nat} {rs : List Nat} (h : s.BuiltTo r m) (fills : s.FillsTours t rs)
    (clock : s.sameClock t) : t.BuiltTo r m := by
  have same : t.appendedAt r = s.appendedAt r := (fills.keepsRecord r).appendedAt clock
  refine ⟨?_, ?_, ?_⟩
  · rw [map_of_map_bare Tour.plannedDeparture (fun _ => rfl) (fills.tours r), same]
    exact h.departures
  · rw [map_of_map_bare Tour.state (fun _ => rfl) (fills.tours r)]
    exact h.planned
  · rw [map_of_map_bare Tour.held (fun _ => rfl) (fills.tours r)]
    exact h.free

/-! ## Appending -/

theorem State.appendedAt_succ (s : State) (r k : Nat) :
    satAdd (s.appendedAt r k) ((s.route r).cfg.period * s.unit r) = s.appendedAt r (k + 1) := by
  unfold State.appendedAt
  rw [satAdd_satAdd, ← Nat.add_mul, Nat.add_assoc, ← Nat.succ_mul]

/-- The next tour of a built board is planned one period after the last, and the first for now plus count (R62). -/
theorem State.BuiltTo.nextDeparture {s : State} {r m : Nat} (h : s.BuiltTo r m) : s.nextDeparture r = s.appendedAt r m := by
  have last : (s.route r).waiting.getLast?.map Tour.plannedDeparture = ((List.range m).map (s.appendedAt r)).getLast? := by
    rw [← h.departures, List.getLast?_map]
  unfold State.nextDeparture
  cases m with
  | zero =>
    have empty : (s.route r).waiting = [] := List.length_eq_zero_iff.mp h.length
    simp [empty, State.appendedAt]
  | succ k =>
    rw [List.range_succ, List.map_append, List.map_singleton, List.getLast?_concat] at last
    obtain ⟨t, ht, dep⟩ := Option.map_eq_some_iff.mp last
    rw [ht]
    dsimp only
    rw [dep, State.appendedAt_succ]

/-- Appending a tour to a built board builds one more (R54, R62). -/
theorem State.BuiltTo.appendTour {s : State} {r m : Nat} (hr : r < 8) (h : s.BuiltTo r m) :
    (s.appendTour r).BuiltTo r (m + 1) := by
  have same := (s.appendTour_turnsBoard r).record.appendedAt ⟨rfl, rfl, rfl⟩
  have waiting : ∃ n, ((s.appendTour r).route r).waiting
      = (s.route r).waiting ++ [Tour.appended n (s.nextDeparture r)] :=
    ⟨_, congrArg Route.waiting ((State.route_modRoute s r r _).trans (if_pos ⟨rfl, hr⟩))⟩
  obtain ⟨n, waiting⟩ := waiting
  refine ⟨?_, ?_, ?_⟩ <;> rw [waiting, List.map_append, List.map_singleton]
  · rw [h.departures, same, List.range_succ, List.map_append, List.map_singleton, Tour.appended, h.nextDeparture]
  · rw [h.planned, List.replicate_succ', Tour.appended]
  · rw [h.free, List.replicate_succ', Tour.appended]

theorem State.BuiltTo.appendUpTo {r : Nat} (hr : r < 8) (n : Nat) {m : Nat} {s : State} (h : s.BuiltTo r m)
    (depth : m + n = (s.route r).cfg.depth) : (State.appendUpTo r n s).BuiltTo r (s.route r).cfg.depth := by
  induction n generalizing m s with
  | zero =>
    rw [← depth]
    exact h
  | succ n ih =>
    have cfg := (s.appendTour_turnsBoard r).record.cfg
    unfold State.appendUpTo
    rw [if_pos (by rw [h.length]; omega), ← cfg]
    exact ih (h.appendTour hr) (by rw [cfg]; omega)

/-- In RUN an enabled route's empty board is built up to its depth (R62). -/
theorem State.appendTours_builtTo {s : State} {r : Nat} (hr : r < 8) (run : s.mode = .run)
    (on : (s.route r).enabled = true) (empty : (s.route r).waiting = []) :
    (s.appendTours r).BuiltTo r (s.route r).cfg.depth := by
  have start : s.BuiltTo r 0 := ⟨by simp [empty], by simp [empty], by simp [empty]⟩
  rw [State.appendTours, if_pos ⟨run, on⟩]
  exact start.appendUpTo hr _ (Nat.zero_add _)

/-! ## The cutoff of a built board (R64) -/

/-- The cutoff that a built board takes leaves its departures, and freezes its head where it stands at or below it. -/
theorem State.BuiltTo.cutoffIfDue {s : State} {r m : Nat} (h : s.BuiltTo r m) :
    ((s.cutoffIfDue r).route r).waiting.map Tour.plannedDeparture = (List.range m).map (s.appendedAt r) ∧
    ((s.cutoffIfDue r).route r).waiting.map Tour.state
      = (List.range m).map fun k => if k = 0 ∧ (s.route r).count ≤ (s.route r).cfg.cutoffLead then .frozen else .planned := by
  unfold State.cutoffIfDue
  by_cases due : (s.route r).count ≤ (s.route r).cfg.cutoffLead
  · rw [if_pos due, State.route_cutoff, State.route_modHead]
    cases hw : (s.route r).waiting with
    | nil =>
      have none : m = 0 := by rw [← h.length, hw]; rfl
      subst none
      split <;> simp [hw]
    | cons t rest =>
      have hr := State.lt_of_waiting hw
      obtain ⟨departures, planned, free⟩ := h
      rw [hw] at departures planned free
      cases m with
      | zero => simp at departures
      | succ m =>
        simp only [List.map_cons, List.range_succ_eq_map, List.replicate_succ, List.cons.injEq] at departures planned free
        have first : s.cutoffTime r = s.appendedAt r 0 := by simp [State.cutoffTime, State.appendedAt]
        have head : t.passesCutoff (s.route r) (s.cutoffTime r) = (t.atCutoff (s.route r) (s.cutoffTime r)).frozen := by
          simp [Tour.passesCutoff, planned.1, free.1]
        rw [if_pos ⟨rfl, hr⟩, List.modifyHead_cons, head, List.range_succ_eq_map]
        simp only [List.map_cons]
        constructor
        · rw [departures.2, Tour.atCutoff_eq, Tour.frozen, first]
        · rw [planned.2, Tour.frozen]
          simp [due, Function.comp_def, List.map_const']
  · rw [if_neg due]
    refine ⟨h.departures, h.planned.trans ?_⟩
    simp [due, List.map_const']

/-! ## ROUTE_ENABLE -/

theorem State.appendTours_sameClock (s : State) (r : Nat) : s.sameClock (s.appendTours r) := by
  rw [State.appendTours_eq]
  exact ⟨rfl, rfl, rfl⟩

theorem State.drain_sameClock (s : State) (rs : List Nat) : s.sameClock (s.drain rs) := by
  rw [State.drain_eq]
  exact ⟨rfl, rfl, rfl⟩

theorem State.cutoffIfDue_eq (s : State) (r : Nat) :
    s.cutoffIfDue r = { s with
      routes := (s.cutoffIfDue r).routes, reported := (s.cutoffIfDue r).reported,
      forwardQueue := (s.cutoffIfDue r).forwardQueue, emitQueue := (s.cutoffIfDue r).emitQueue,
      ringOut := (s.cutoffIfDue r).ringOut, burst := (s.cutoffIfDue r).burst, flags := (s.cutoffIfDue r).flags } := by
  unfold State.cutoffIfDue
  split
  · exact s.cutoff_eq r
  · rfl

theorem State.cutoffIfDue_sameClock (s : State) (r : Nat) : s.sameClock (s.cutoffIfDue r) := by
  rw [State.cutoffIfDue_eq]
  exact ⟨rfl, rfl, rfl⟩

/-- What follows the departure of a head takes orders out of the backlog and adds none (R63). -/
theorem State.afterHead_backlog (s : State) (r : Nat) : (s.afterHead r).backlog.Sublist s.backlog := by
  have drained := State.offerOrders_sublist [r] (s.appendTours r).backlog (s.appendTours r)
  have appended : (s.appendTours r).backlog = s.backlog := by rw [State.appendTours_eq]
  unfold State.afterHead
  rw [State.cutoffIfDue_eq]
  exact appended ▸ drained

/-- What follows builds an empty board with the departures of R62. -/
theorem State.afterHead_departures {s : State} {r : Nat} (hr : r < 8) (run : s.mode = .run)
    (on : (s.route r).enabled = true) (empty : (s.route r).waiting = []) :
    ((s.afterHead r).route r).waiting.map Tour.plannedDeparture
      = (List.range (s.route r).cfg.depth).map (s.appendedAt r) := by
  have appended := State.appendTours_builtTo hr run on empty
  have drained := appended.fill (State.drain_fillsTours _ [r]) (State.drain_sameClock _ [r])
  have same : ((s.appendTours r).drain [r]).appendedAt r = s.appendedAt r :=
    ((s.appendTours_turnsBoard r).record.trans (State.drain_turnsBoard _ r).record).appendedAt
      ((s.appendTours_sameClock r).trans (State.drain_sameClock _ [r]))
  exact same ▸ drained.cutoffIfDue.1

/-- Settles O47: the checks, the mark, and in RUN the board built on an empty waiting list. -/
theorem enableMarksRoute : Obligations.EnableMarksRoute := by
  intro e r s hh
  have settled : s.reported = [] := hh.1.2.2
  have carried : exec (.routeEnable e r) s = .next (((if s.routeStatus r = .ok then s.enableRoute r else s).answered e 10
      (s.routeStatus r).code []).settleLamps) := by
    have := State.hear_routeRequest (.routeEnable r) hh (by simp [Request.kind])
    rw [State.carryOut, State.doRouteEnable, State.reply_answered] at this
    exact congrArg _ this
  refine ⟨fun hr => ?_, fun hr hc => ?_, fun hr hc => ⟨fun on => ?_, fun off setup => ?_, fun off run empty => ?_⟩⟩
  · rw [carried, State.routeStatus_range hr, if_neg (by decide), State.answered_settled settled]
    rfl
  · rw [carried, State.routeStatus_state hr hc, if_neg (by decide), State.answered_settled settled]
    rfl
  · rw [carried, State.routeStatus_ok hr hc, if_pos rfl, State.enableRoute, if_pos on, State.answered_settled settled]
    rfl
  · rw [carried, State.routeStatus_ok hr hc, if_pos rfl, State.enableRoute, if_neg (by simp [off])]
    dsimp only
    rw [if_neg (by simp [setup]), State.answered_settled]
    · rfl
    · exact settled
  · generalize hs1 : s.modRoute r (fun ro => { ro with enabled := true }) = s1
    have routes (q : Nat) : s1.route q = if q = r ∧ r < 8 then { s.route r with enabled := true } else s.route q := by
      rw [← hs1, State.route_modRoute]
    have route : s1.route r = { s.route r with enabled := true } := by rw [routes, if_pos ⟨rfl, hr⟩]
    have taken : exec (.routeEnable e r) s = .next ((s1.afterHead r).answered e 10 0 []).settleLamps := by
      rw [carried, State.routeStatus_ok hr hc, if_pos rfl, State.enableRoute, if_neg (by simp [off])]
      dsimp only
      rw [if_pos run, hs1]
      rfl
    have turns := s1.afterHead_turnsBoard r
    refine ⟨_, taken, ?_, ?_, fun q hq => ?_, ?_, State.slot_answered_settleLamps ?_ _ _ _ _, ?_⟩
    · rw [State.route_answered_settleLamps,
        State.afterHead_departures hr (by rw [← hs1]; exact run) (by rw [route]) (by rw [route]; exact empty)]
      have same : s1.appendedAt r = s.appendedAt r :=
        State.appendedAt_congr (by rw [route]; rfl) (by rw [route]) (by rw [← hs1]; exact ⟨rfl, rfl, rfl⟩)
      rw [same, funext (s.appendedAt_eq r), route]
      rfl
    · rw [State.route_answered_settleLamps]
      have record : _ = _ := turns.record
      rw [route] at record
      exact record
    · rw [State.route_answered_settleLamps, turns.others q hq, routes, if_neg (fun c => hq c.1)]
    · rw [State.answered_settleLamps_eq]
      have backlog := s1.afterHead_backlog r
      rw [← hs1] at backlog ⊢
      exact backlog
    · rw [State.afterHead_eq, ← hs1]
      rfl
    · rw [State.answered_settleLamps_eq, State.afterHead_eq, ← hs1]
      simp only [State.modRoute, settled]

/-! ## START -/

/-- Operations of one board each, over several routes: a route not among them stays. -/
theorem State.foldl_route_other {f : State → Nat → State} (turns : ∀ (s : State) q, s.TurnsBoard (f s q) q) (l : List Nat)
    (s : State) {r : Nat} (hr : r ∉ l) : (l.foldl f s).route r = s.route r := by
  induction l generalizing s with
  | nil => rfl
  | cons q l ih =>
    have first : r ≠ q := fun h => hr (by simp [h])
    have rest : r ∉ l := fun h => hr (by simp [h])
    exact (ih (f s q) rest).trans ((turns s q).others r first)

theorem State.foldl_sameClock {f : State → Nat → State} (clock : ∀ (s : State) q, s.sameClock (f s q)) (l : List Nat)
    (s : State) : s.sameClock (l.foldl f s) := by
  induction l generalizing s with
  | nil => exact ⟨rfl, rfl, rfl⟩
  | cons q l ih => exact (clock s q).trans (ih _)

/-- Operations of one board each, over several routes: the operation of a route among them finds its record as it stood before
them all, and the later ones leave it as it left it. -/
theorem State.foldl_route {f : State → Nat → State} (turns : ∀ (s : State) q, s.TurnsBoard (f s q) q)
    (clock : ∀ (s : State) q, s.sameClock (f s q)) (l : List Nat) (once : l.Nodup) (s : State) {r : Nat} (hr : r ∈ l) :
    ∃ mid : State, mid.route r = s.route r ∧ s.sameClock mid ∧ (l.foldl f s).route r = (f mid r).route r ∧
      (f mid r).sameClock (l.foldl f s) := by
  induction l generalizing s with
  | nil => simp at hr
  | cons q l ih =>
    obtain ⟨new, once⟩ := List.nodup_cons.mp once
    by_cases hq : r = q
    · subst hq
      exact ⟨s, rfl, ⟨rfl, rfl, rfl⟩, State.foldl_route_other turns l _ new, State.foldl_sameClock clock l _⟩
    · obtain ⟨mid, route, same, out⟩ := ih once (f s q) ((List.mem_cons.mp hr).resolve_left hq)
      exact ⟨mid, route.trans ((turns s q).others r hq), (clock s q).trans same, out⟩

theorem State.mem_enabledRoutes (s : State) (r : Nat) : r ∈ s.enabledRoutes ↔ r < 8 ∧ (s.route r).enabled = true := by
  simp [State.enabledRoutes, Config.routeCount]

theorem State.enabledRoutes_nodup (s : State) : s.enabledRoutes.Nodup := List.nodup_range.filter _

theorem State.foldl_appendTours_eq (l : List Nat) (s : State) :
    l.foldl State.appendTours s = { s with routes := (l.foldl State.appendTours s).routes } := by
  induction l generalizing s with
  | nil => rfl
  | cons q l ih =>
    rw [List.foldl_cons, ih, State.appendTours_eq]

theorem State.foldl_cutoffIfDue_eq (l : List Nat) (s : State) :
    l.foldl State.cutoffIfDue s = { s with
      routes := (l.foldl State.cutoffIfDue s).routes, reported := (l.foldl State.cutoffIfDue s).reported,
      forwardQueue := (l.foldl State.cutoffIfDue s).forwardQueue, emitQueue := (l.foldl State.cutoffIfDue s).emitQueue,
      ringOut := (l.foldl State.cutoffIfDue s).ringOut, burst := (l.foldl State.cutoffIfDue s).burst,
      flags := (l.foldl State.cutoffIfDue s).flags } := by
  induction l generalizing s with
  | nil => rfl
  | cons q l ih =>
    rw [List.foldl_cons, ih, State.cutoffIfDue_eq]

/-- The start of the routes changes the routes, the backlog, the reported slots and what emission changes (R53, R92). -/
theorem State.startRoutes_eq (s : State) :
    s.startRoutes = { s with
      routes := s.startRoutes.routes, backlog := s.startRoutes.backlog, reported := s.startRoutes.reported,
      forwardQueue := s.startRoutes.forwardQueue, emitQueue := s.startRoutes.emitQueue,
      ringOut := s.startRoutes.ringOut, burst := s.startRoutes.burst, flags := s.startRoutes.flags } := by
  unfold State.startRoutes
  dsimp only
  rw [State.foldl_cutoffIfDue_eq, State.drain_eq, State.foldl_appendTours_eq]

theorem State.startRoutes_backlog (s : State) : s.startRoutes.backlog.Sublist s.backlog := by
  have drained := State.offerOrders_sublist s.enabledRoutes (s.enabledRoutes.foldl State.appendTours s).backlog
    (s.enabledRoutes.foldl State.appendTours s)
  have appended : (s.enabledRoutes.foldl State.appendTours s).backlog = s.backlog := by rw [State.foldl_appendTours_eq]
  unfold State.startRoutes
  dsimp only
  rw [State.foldl_cutoffIfDue_eq]
  exact appended ▸ drained

/-- A route that is not enabled stays as the routes start. -/
theorem State.startRoutes_other (s : State) {r : Nat} (off : (s.route r).enabled = false) :
    s.startRoutes.route r = s.route r := by
  have out : r ∉ s.enabledRoutes := by simp [State.mem_enabledRoutes, off]
  unfold State.startRoutes
  dsimp only
  rw [State.foldl_route_other State.cutoffIfDue_turnsBoard _ _ out, (State.drain_fillsTours _ _).others r out,
    State.foldl_route_other State.appendTours_turnsBoard _ _ out]

/-- An enabled route's empty board is built as the routes start, its head FROZEN where the count stands at or below the
cutoff_lead; nothing else of its record changes but the next tour number. -/
theorem State.startRoutes_built {s : State} {r : Nat} (hr : r < 8) (run : s.mode = .run)
    (on : (s.route r).enabled = true) (empty : (s.route r).waiting = []) :
    (s.startRoutes.route r).waiting.map Tour.plannedDeparture
      = (List.range (s.route r).cfg.depth).map (s.appendedAt r) ∧
    (s.startRoutes.route r).waiting.map Tour.state = (List.range (s.route r).cfg.depth).map (fun k =>
      if k = 0 ∧ (s.route r).count ≤ (s.route r).cfg.cutoffLead then .frozen else .planned) ∧
    s.KeepsRecord s.startRoutes r := by
  have mem : r ∈ s.enabledRoutes := (s.mem_enabledRoutes r).mpr ⟨hr, on⟩
  obtain ⟨a, routeA, clockA, appended, clockA'⟩ := State.foldl_route State.appendTours_turnsBoard
    State.appendTours_sameClock s.enabledRoutes s.enabledRoutes_nodup s mem
  have recordA := (State.KeepsRecord.of_route routeA).trans (a.appendTours_turnsBoard r).record
  have built : (a.appendTours r).BuiltTo r (a.route r).cfg.depth :=
    State.appendTours_builtTo hr (clockA.2.2.trans run) (by rw [routeA]; exact on) (by rw [routeA]; exact empty)
  have drained := (built.congr appended clockA').fill (State.drain_fillsTours _ s.enabledRoutes) (State.drain_sameClock _ _)
  have recordD := (recordA.trans (.of_route appended)).trans
    ((State.drain_fillsTours _ s.enabledRoutes).keepsRecord r)
  have clockD := ((clockA.trans (a.appendTours_sameClock r)).trans clockA').trans
    (State.drain_sameClock _ s.enabledRoutes)
  obtain ⟨b, routeB, clockB, out, -⟩ := State.foldl_route State.cutoffIfDue_turnsBoard State.cutoffIfDue_sameClock
    s.enabledRoutes s.enabledRoutes_nodup ((s.enabledRoutes.foldl State.appendTours s).drain s.enabledRoutes) mem
  have recordB := recordD.trans (.of_route routeB)
  obtain ⟨departures, states⟩ := (drained.congr routeB clockB).cutoffIfDue
  rw [recordB.appendedAt (clockD.trans clockB), routeA] at departures
  rw [recordB.count, recordB.cfg, routeA] at states
  have start : s.startRoutes.route r = (b.cutoffIfDue r).route r := out
  rw [start]
  exact ⟨departures, states, (recordB.trans (b.cutoffIfDue_turnsBoard r).record).trans (.of_route start)⟩

/-- Settles O40: each enabled route by the board its start builds, and what the start leaves. -/
theorem startBuildsTours : Obligations.StartBuildsTours := by
  intro e s hh setup quiet idle
  have settled : s.reported = [] := hh.1.2.2
  have carried : exec (.start e) s
      = .next ((State.startRoutes { s with mode := .run }).answered e 4 0 []).settleLamps := by
    have := State.hear_request_taken 0 0 .start hh (by rw [setup]; rfl) (.inl idle)
    rw [State.carryOut, State.doStart, State.reply_answered] at this
    exact congrArg _ this
  have empty := (quiet (by simp [setup])).1
  refine ⟨_, carried, ?_, fun r hr on _ => ?_, fun r off => ?_, ?_, State.slot_answered_settleLamps ?_ _ _ _ _, ?_⟩
  · rw [State.answered_settleLamps_eq, State.startRoutes_eq]
  · obtain ⟨departures, states, record⟩ := State.startRoutes_built (s := { s with mode := .run }) hr rfl on (empty r hr).1
    rw [State.route_answered_settleLamps]
    refine ⟨?_, states, record.running.trans (empty r hr).2, record.count, ?_, ?_, ?_⟩
    · rw [departures, funext (State.appendedAt_eq _ r)]
      rfl
    · rw [record]; rfl
    · rw [record]; rfl
    · rw [record]; exact on
  · rw [State.route_answered_settleLamps]
    exact State.startRoutes_other { s with mode := .run } off
  · rw [State.answered_settleLamps_eq]
    exact State.startRoutes_backlog { s with mode := .run }
  · rw [State.startRoutes_eq]
  · rw [State.answered_settleLamps_eq, State.startRoutes_eq]
    simp only [settled]

end Sys2Proof.Machine
end

section
/-! The cutoff reached: the head's departure, its freeze, and the pick list it sends (R46, R64 to R66). -/

namespace Sys2Proof.Machine

/-! ## Pick lists (R65, R66) -/

/-- Groups of k as positions in the list: the i-th begins at the (k × i)-th member (R65, R121). -/
theorem groupsOf_eq {α : Type} {k : Nat} (pos : 0 < k) (fuel : Nat) (xs : List α) (enough : xs.length ≤ fuel) :
    groupsOf k fuel xs = (List.range ((xs.length + (k - 1)) / k)).map fun i => (xs.drop (k * i)).take k := by
  induction fuel generalizing xs with
  | zero =>
    have empty : xs = [] := List.length_eq_zero_iff.mp (Nat.le_zero.mp enough)
    simp [groupsOf, empty, Nat.div_eq_of_lt (Nat.sub_lt pos Nat.one_pos)]
  | succ fuel ih =>
    cases xs with
    | nil => simp [groupsOf, Nat.div_eq_of_lt (Nat.sub_lt pos Nat.one_pos)]
    | cons x xs =>
      have groups : ((x :: xs).length + (k - 1)) / k = (((x :: xs).drop k).length + (k - 1)) / k + 1 := by
        have whole : (x :: xs).length + (k - 1) = xs.length + k := by simp only [List.length_cons]; omega
        rw [whole, Nat.add_div_right _ pos, List.length_drop]
        rcases Nat.lt_or_ge xs.length k with short | long
        · have none : (x :: xs).length - k = 0 := by simp only [List.length_cons]; omega
          rw [none, Nat.div_eq_of_lt short, Nat.div_eq_of_lt (by omega)]
        · have rest : (x :: xs).length - k + (k - 1) = xs.length := by simp only [List.length_cons]; omega
          rw [rest]
      rw [groups, List.range_succ_eq_map]
      simp only [groupsOf, List.isEmpty_cons, List.map_cons, List.map_map, Nat.mul_zero, List.drop_zero]
      rw [ih _ (by simp only [List.length_drop, List.length_cons] at enough ⊢; omega)]
      simp [Function.comp_def, Nat.mul_succ, Nat.add_comm]

/-- The payloads of a frozen tour's pick list, as Table 11-4 gives them. -/
def State.pickPayloads (s : State) (r : Nat) (tour : Tour) : List (List Byte) :=
  (List.range ((tour.entries.length + 13) / 14)).map (fun k =>
    let group := (tour.entries.drop (14 * k)).take 14
    [1, byte r] ++ be16 tour.number ++ [byte group.length] ++ group.flatMap fun e =>
      [byte (e.number.getD 0)] ++ be16 e.slot ++ be32 (s.slot e.slot).config.partTag ++ [byte e.stop])
    ++ [[2, byte r] ++ be16 tour.number ++ [byte tour.entries.length]]

theorem State.publish_eq (s : State) (r : Nat) (t : Tour) :
    s.publish r t = (s.pickPayloads r t).foldl (fun x p => x.emit clsPick (s.route r).cfg.pickStation p) s := by
  unfold State.publish
  dsimp only
  rw [groupsOf_eq (by decide) _ _ (Nat.le_refl _), List.map_map]
  rfl

theorem State.pickPayloads_congr {s t : State} (h : ∀ i, t.slot i = s.slot i) (r : Nat) (tour : Tour) :
    t.pickPayloads r tour = s.pickPayloads r tour := by
  unfold State.pickPayloads
  simp only [h]

/-- An empty tour's pick list is LIST_READY alone (R66). -/
theorem State.pickPayloads_empty (s : State) (r : Nat) {tour : Tour} (h : tour.entries = []) :
    (s.pickPayloads r tour).length = 1 := by
  simp [State.pickPayloads, h]

theorem State.publish_sends {s : State} {r : Nat} {t : Tour} (room : s.emitQueue.length + (s.pickPayloads r t).length ≤ 32) :
    s.Sends (s.publish r t)
      ((s.pickPayloads r t).map (Frame.make clsPick (s.route r).cfg.pickStation (s.station.getD 0))) := by
  rw [State.publish_eq]
  exact State.emits_sends _ _ _ s room

theorem State.publish_sendsNo (s : State) (r : Nat) (t : Tour) {cls : Nat} (hc : clsPick ≠ cls) :
    s.sendsNo (s.publish r t) cls := by
  rw [State.publish_eq]
  exact State.emits_sendsNo hc _ _ s

/-! ## Entry numbers (R64) -/

theorem numberEntries_number (n : Nat) (es : List Entry) :
    (numberEntries n es).map Entry.number = (List.range es.length).map fun k => some (n + k) := by
  induction es generalizing n with
  | nil => rfl
  | cons e es ih =>
    simp [numberEntries, ih, List.range_succ_eq_map, Function.comp_def, Nat.add_assoc, Nat.add_comm 1]

/-- Numbering changes the numbers alone. -/
theorem numberEntries_map {α : Type} (f : Entry → α) (hf : ∀ e k, f { e with number := k } = f e) (n : Nat)
    (es : List Entry) : (numberEntries n es).map f = es.map f := by
  induction es generalizing n with
  | nil => rfl
  | cons e es ih => simp [numberEntries, ih, hf]

/-! ## The cutoff as it acts on a head -/

/-- A head that is not held has taken the departure of its cutoff, and its LATE marks are evaluated (R46). -/
def State.headTimed (s : State) (r : Nat) (h : Tour) : State :=
  (s.modHead r fun _ => h.atCutoff (s.route r) (s.cutoffTime r)).noteMarks h.entries
    (h.atCutoff (s.route r) (s.cutoffTime r)).entries

section
variable {s : State} {r : Nat} {h : Tour} {rest : List Tour}

theorem State.cutoff_of_empty (hw : (s.route r).waiting = []) : s.cutoff r = s := by
  unfold State.cutoff
  rw [hw]

theorem State.cutoff_of_held (hw : (s.route r).waiting = h :: rest) (held : h.held = true) : s.cutoff r = s := by
  unfold State.cutoff
  rw [hw]
  exact if_pos held

/-- A FROZEN head takes its departure at the cutoff and nothing more (R46). -/
theorem State.cutoff_of_frozen (hw : (s.route r).waiting = h :: rest) (free : h.held = false) (frozen : h.state ≠ .planned) :
    s.cutoff r = s.headTimed r h := by
  unfold State.cutoff
  rw [hw]
  exact (if_neg (by simp [free])).trans (if_neg frozen)

/-- A PLANNED head takes its departure at the cutoff and is FROZEN, and its pick list is published (R46, R64, R65). -/
theorem State.cutoff_of_planned (hw : (s.route r).waiting = h :: rest) (free : h.held = false) (planned : h.state = .planned) :
    s.cutoff r = ((s.headTimed r h).modHead r Tour.frozen).publish r
      (h.passesCutoff (s.route r) (s.cutoffTime r)) := by
  have hr := State.lt_of_waiting hw
  have timed : ((s.headTimed r h).route r).waiting = h.atCutoff (s.route r) (s.cutoffTime r) :: rest := by
    simp [State.headTimed, State.route_modHead, hr, hw]
  have head : h.passesCutoff (s.route r) (s.cutoffTime r) = (h.atCutoff (s.route r) (s.cutoffTime r)).frozen := by
    simp [Tour.passesCutoff, free, planned]
  have freezes : s.cutoff r = (s.headTimed r h).freeze r := by
    unfold State.cutoff
    rw [hw]
    exact (if_neg (by simp [free])).trans (if_pos planned)
  rw [freezes, State.freeze, timed, head]

end

/-- A head's new departure raises LATE_ORDER at most. -/
theorem State.headTimed_alertsOnce (s : State) (r : Nat) (h : Tour) : s.alertsOnce (s.headTimed r h) .lateOrder :=
  State.alertsOnce.trans (.of_sends_nil (.of_link (by rfl) (by rfl) (by rfl) (by rfl)) _)
    (State.noteMarks_alertsOnce _ _ _)

/-- An empty head's new departure sends nothing. -/
theorem State.headTimed_sends_empty (s : State) {r : Nat} {h : Tour} (empty : h.entries = []) :
    s.Sends (s.headTimed r h) [] := by
  unfold State.headTimed
  rw [Tour.atCutoff_eq, empty, List.map_nil, State.noteMarks_nil]
  exact .of_link rfl rfl rfl rfl

/-- A LATE mark newly set by a head's new departure raises LATE_ORDER (R61). -/
theorem State.headTimed_flagSet {s : State} {r : Nat} {h : Tour}
    (late : ∃ e ∈ h.entries, e.late = false ∧ (h.markAt (s.route r) (s.cutoffTime r) e).late = true) :
    (s.headTimed r h).flagSet .lateOrder = true := by
  unfold State.headTimed
  rw [Tour.atCutoff_eq]
  exact State.noteMarks_flagSet _ _ _ late

/-- The cutoff sends alerts and pick lists alone. -/
theorem State.cutoff_sendsNo (s : State) (r : Nat) {cls : Nat} (ha : clsAlert ≠ cls) (hp : clsPick ≠ cls) :
    s.sendsNo (s.cutoff r) cls := by
  cases hw : (s.route r).waiting with
  | nil =>
    rw [State.cutoff_of_empty hw]
    exact (State.Sends.refl s).sendsNo_of_nil cls
  | cons h rest =>
    have timed := (s.headTimed_alertsOnce r h).sendsNo ha
    by_cases held : h.held = true
    · rw [State.cutoff_of_held hw held]
      exact (State.Sends.refl s).sendsNo_of_nil cls
    · have free : h.held = false := by simpa using held
      by_cases planned : h.state = .planned
      · rw [State.cutoff_of_planned hw free planned]
        exact (timed.trans (.of_link (by rfl) (by rfl) (by rfl) (by rfl))).trans (State.publish_sendsNo _ r _ hp)
      · rw [State.cutoff_of_frozen hw free planned]
        exact timed

/-- The cutoff of a head that is not PLANNED raises LATE_ORDER at most. -/
theorem State.cutoff_alertsOnce {s : State} {r : Nat} (h : ∀ t ∈ (s.route r).waiting.head?, t.state ≠ .planned) :
    s.alertsOnce (s.cutoff r) .lateOrder := by
  cases hw : (s.route r).waiting with
  | nil =>
    rw [State.cutoff_of_empty hw]
    exact .of_sends_nil (.refl s) _
  | cons t rest =>
    by_cases held : t.held = true
    · rw [State.cutoff_of_held hw held]
      exact .of_sends_nil (.refl s) _
    · rw [State.cutoff_of_frozen hw (by simpa using held) (h t (by simp [hw]))]
      exact s.headTimed_alertsOnce r t

theorem State.headTimed_turnsBoard (s : State) (r : Nat) (h : Tour) : s.TurnsBoard (s.headTimed r h) r :=
  (s.modHead_turnsBoard r _).trans (.of_routes (State.route_noteMarks _ _ _) r)

/-- A head's departure set at a cutoff leaves its route's static fields, the station and the slots. -/
theorem State.frozenHead_frame (s : State) (r : Nat) (h : Tour) :
    (((s.headTimed r h).modHead r Tour.frozen).route r).cfg = (s.route r).cfg ∧
    ((s.headTimed r h).modHead r Tour.frozen).station = s.station ∧
    ∀ i, ((s.headTimed r h).modHead r Tour.frozen).slot i = s.slot i := by
  have turns := (s.headTimed_turnsBoard r h).trans (State.modHead_turnsBoard _ r Tour.frozen)
  refine ⟨turns.record.cfg, ?_, fun i => ?_⟩
  · rw [State.modHead_station, State.headTimed, State.noteMarks_eq]
    rfl
  · exact State.slot_noteMarks _ _ _ i

/-- A LATE mark newly set at the cutoff raises LATE_ORDER (R46, R61). -/
theorem State.cutoff_flagSet {s : State} {r : Nat} {h : Tour} {rest : List Tour} (hw : (s.route r).waiting = h :: rest)
    (free : h.held = false)
    (late : ∃ e ∈ h.entries, e.late = false ∧ (h.markAt (s.route r) (s.cutoffTime r) e).late = true) :
    (s.cutoff r).flagSet .lateOrder = true := by
  have stands := State.headTimed_flagSet late
  by_cases planned : h.state = .planned
  · rw [State.cutoff_of_planned hw free planned]
    exact (State.publish_sendsNo (cls := clsLamp) _ r _ (by decide)).flags stands
  · rw [State.cutoff_of_frozen hw free planned]
    exact stands

/-- The pick list of a PLANNED head leaves after one alert at most, and nothing of its class but the lamps follows (R65, R158). -/
theorem State.cutoff_sendsPickList {s s0 : State} {r : Nat} {h : Tour} {rest : List Tour} (link : s.Sends s0 [])
    (slots : ∀ i, s0.slot i = s.slot i) (station : s0.station = s.station) (cfg : (s0.route r).cfg = (s.route r).cfg)
    (hw : (s0.route r).waiting = h :: rest) (free : h.held = false) (planned : h.state = .planned) :
    s.sendsPickList (s0.cutoff r).settleLamps r (h.passesCutoff (s0.route r) (s0.cutoffTime r)) := by
  obtain ⟨before, sent, alerts, few, -⟩ := s0.headTimed_alertsOnce r h
  obtain ⟨cfg1, station1, slots1⟩ := s0.frozenHead_frame r h
  have ahead : s.Sends ((s0.headTimed r h).modHead r Tour.frozen) before := by
    simpa using (link.trans sent).trans (.of_link (by rfl) (by rfl) (by rfl) (by rfl))
  refine State.sendsSeries_of_before ahead few (fun f hf => by rw [alerts f hf]; decide) fun room => ?_
  refine ⟨s0.cutoff r, ?_, State.settleLamps_sendsNo _ (by decide)⟩
  have payloads := State.pickPayloads_congr (fun i => (slots1 i).trans (slots i)) r
    (h.passesCutoff (s0.route r) (s0.cutoffTime r))
  have sends := State.publish_sends (by rw [payloads]; exact room)
  rw [payloads, cfg1, station1, cfg, station] at sends
  rw [State.cutoff_of_planned hw free planned]
  exact sends

/-- Two changes of a route that agree on its record are one. -/
theorem State.modRoute_congr {s : State} {r : Nat} {f g : Route → Route} (h : f (s.route r) = g (s.route r)) :
    s.modRoute r f = s.modRoute r g := by
  unfold State.modRoute modifyAt
  by_cases hr : r < 8
  · have member : s.route r = s.routes[r] := by simp [State.route, Vector.getD, hr]
    rw [member] at h
    simp only [hr, dif_pos, h]
  · simp only [hr, dif_neg, not_false_eq_true]

theorem Tour.markAt_congr (h : Tour) {ro ro' : Route} (stops : ro.stops = ro'.stops) (departure : Nat) :
    h.markAt ro departure = h.markAt ro' departure := by
  funext e
  simp only [Tour.markAt, Tour.arrival_congr _ stops]

/-- A route whose count is brought to its mark, before the event of the mark. -/
def State.atCount (s : State) (r count : Nat) : State := s.modRoute r fun ro => { ro with count := count }

theorem State.route_atCount (s : State) (r count q : Nat) :
    (s.atCount r count).route q = if q = r ∧ r < 8 then { s.route r with count := count } else s.route q :=
  State.route_modRoute s r q _

theorem State.atCount_sends (s : State) (r count : Nat) : s.Sends (s.atCount r count) [] := .of_link rfl rfl rfl rfl

/-- The departure a cutoff sets at a count, as the statements give it. -/
theorem State.cutoffTime_atCount {s : State} {r : Nat} (hr : r < 8) (count : Nat) :
    (s.atCount r count).cutoffTime r = min (s.pt + s.unitTicks r count) 4294967295 := by
  have unit : (s.atCount r count).unit r = s.unit r := by
    unfold State.unit Route.cfg
    rw [State.route_atCount, if_pos ⟨rfl, hr⟩]
    rfl
  rw [State.cutoffTime, unit, State.route_atCount, if_pos ⟨rfl, hr⟩, State.unitTicks_eq]
  rfl

/-- The cutoff that a command brings about is taken at the smaller of the count and cutoff_lead (R46). -/
theorem State.exec_cutoffReached {s : State} {r : Nat} (runs : s.timerRuns r = true) (lead : 0 < (s.route r).cfg.cutoffLead) :
    exec (.cutoffReached r) s
      = .next ((s.atCount r (min (s.route r).count (s.route r).cfg.cutoffLead)).cutoff r).settleLamps := by
  have reaches : s.reachCutoff r = (s.atCount r (min (s.route r).count (s.route r).cfg.cutoffLead)).cutoff r := by
    rw [State.reachCutoff, if_pos runs, if_neg (Nat.ne_of_gt lead)]
    exact congrArg (State.cutoff · r) (State.modRoute_congr rfl)
  exact congrArg (fun x : State => Host.Outcome.next x.settleLamps) reaches

/-- The route of a head that is not held, as the cutoff taken at a count leaves it (R46, R64). -/
theorem State.route_cutoff_atCount {s : State} {r : Nat} {head : Tour} {behind : List Tour} (count : Nat)
    (hw : (s.route r).waiting = head :: behind) :
    ((s.atCount r count).cutoff r).route r = { s.route r with
      count := count,
      waiting := head.passesCutoff (s.route r) (min (s.pt + s.unitTicks r count) 4294967295) :: behind } := by
  have hr := State.lt_of_waiting hw
  rw [State.route_cutoff, State.route_modHead, if_pos ⟨rfl, hr⟩, State.cutoffTime_atCount hr, State.route_atCount,
    if_pos ⟨rfl, hr⟩]
  dsimp only
  rw [hw, List.modifyHead_cons]
  rfl

/-- Settles O19: the route as the cutoff leaves it, and what it sends before the lamps. -/
theorem cutoffFreezesHead : Obligations.CutoffFreezesHead := by
  intro r s hr runs lead count
  have reached := State.exec_cutoffReached runs lead
  have route0 : (s.atCount r count).route r = { s.route r with count := count } := by
    rw [State.route_atCount, if_pos ⟨rfl, hr⟩]
  refine ⟨fun held settled => ?_, ?_⟩
  · have stays : (s.atCount r count).cutoff r = s.atCount r count := by
      cases hw : (s.route r).waiting with
      | nil => exact State.cutoff_of_empty (by rw [route0]; exact hw)
      | cons t rest => exact State.cutoff_of_held (by rw [route0]; exact hw) (held t (by simp [hw]))
    rw [reached, stays]
    exact congrArg _ (State.settleLamps_settled settled)
  · intro head behind hw free moved marked kept
    have hw0 : ((s.atCount r count).route r).waiting = head :: behind := by rw [route0]; exact hw
    have time := State.cutoffTime_atCount (s := s) hr count
    have marks : head.markAt ((s.atCount r count).route r) ((s.atCount r count).cutoffTime r) = marked := by
      rw [time, Tour.markAt_congr head (ro' := s.route r) (by rw [route0])]
      rfl
    have entries : (head.atCutoff (s.route r) moved.plannedDeparture)
        = { moved with entries := head.entries.map marked } := Tour.atCutoff_eq _ _ _
    have ends : kept ((s.atCount r count).cutoff r).settleLamps := by
      have turns := State.cutoff_turnsBoard (s.atCount r count) r
      refine ⟨fun late => ?_, fun q hq => ?_, fun i => ?_, ?_⟩
      · exact (State.settleLamps_sendsNo (cls := clsPick) _ (by decide)).flags
          (State.cutoff_flagSet hw0 free (by rw [marks]; exact late))
      · rw [State.settleLamps_route, turns.others q hq, State.route_atCount, if_neg (fun c => hq c.1)]
      · have same : ((s.atCount r count).cutoff r).slot i = s.slot i := by rw [State.cutoff_eq]; rfl
        rw [← same]
        exact State.settleLamps_slot _ i
      · rw [State.settleLamps_eq, State.cutoff_eq]
        rfl
    refine ⟨fun planned => ?_, fun frozen => ?_⟩
    · have head' : head.passesCutoff (s.route r) moved.plannedDeparture = { moved with
          state := .frozen, pickState := some (if head.entries = [] then .picked else .ready),
          entries := numberEntries 1 (head.entries.map marked) } := by
        rw [Tour.passesCutoff, if_neg (by simp [free]), if_pos planned, entries, Tour.frozen]
        simp
      refine ⟨_, head.passesCutoff (s.route r) moved.plannedDeparture, reached, ?_, ?_, ?_, ?_, ?_, ends⟩
      · rw [State.settleLamps_route, State.route_cutoff_atCount count hw]
      · rw [head']
      · rw [head', numberEntries_map _ (fun _ _ => rfl), List.map_map]
        rfl
      · rw [head', numberEntries_number, List.length_map]
        simp only [Nat.add_comm 1]
      · have sends := State.cutoff_sendsPickList (s.atCount_sends r count) (fun _ => rfl) rfl (by rw [route0]; rfl) hw0 free
          planned
        rw [time, Tour.passesCutoff_congr (ro' := s.route r) (by rw [route0])] at sends
        exact sends
    · have waits : head.state ≠ .planned := by simp [frozen]
      have head' : head.passesCutoff (s.route r) moved.plannedDeparture
          = { moved with entries := head.entries.map marked } := by
        rw [Tour.passesCutoff, if_neg (by simp [free]), if_neg waits, entries]
      refine ⟨_, reached, ?_, ?_, ends⟩
      · rw [State.settleLamps_route, State.route_cutoff_atCount count hw, ← head']
      · obtain ⟨before, sent, alerts, few, -⟩ := State.cutoff_alertsOnce (s := s.atCount r count) (r := r)
          (by simpa [hw0] using waits)
        have ahead : s.Sends ((s.atCount r count).cutoff r) before := by simpa using (s.atCount_sends r count).trans sent
        exact State.sendsSeries_of_before ahead few (fun f hf => by rw [alerts f hf]; decide) fun _ =>
          ⟨_, .refl _, State.settleLamps_sendsNo _ (by decide)⟩

end Sys2Proof.Machine
end

section
/-! The departure due: the board as the count's fall finds it, the head that is held, and the head that departs with its
ROUTE_ORDER (R47, R63, R70 to R72, R117, R118). -/

namespace Sys2Proof.Machine

/-! ## The board at a departure due (R46, R47) -/

/-- Two changes of one route are one. -/
theorem State.modRoute_modRoute (s : State) (r : Nat) (f g : Route → Route) :
    (s.modRoute r f).modRoute r g = s.modRoute r (g ∘ f) := by
  unfold State.modRoute modifyAt
  by_cases hr : r < 8 <;> simp [hr]

/-- A route's count reloaded with its period (R47). -/
def Route.reloaded (ro : Route) : Route := { ro with count := ro.cfg.period }

/-- The cutoff comes before a departure due: cutoff_lead is 0, or the count stands above it (R46, R47). -/
abbrev State.cutoffFirst (s : State) (r : Nat) : Prop :=
  (s.route r).cfg.cutoffLead = 0 ∨ (s.route r).cfg.cutoffLead < (s.route r).count

/-- The part as a departure due reaches the board of route r: the cutoff taken where it comes first, the count reloaded. -/
def State.atBoard (s : State) (r : Nat) : State :=
  let x := s.passCutoff r
  let x0 := x.modRoute r fun ro => { ro with count := 0 }
  (if (x.route r).cfg.cutoffLead = 0 then x0.cutoff r else x0).modRoute r Route.reloaded

theorem State.exec_departureDue {s : State} {r : Nat} (runs : s.timerRuns r = true) :
    exec (.departureDue r) s = .next ((s.atBoard r).boardDue r).settleLamps := by
  have reaches : s.reachDue r = (s.atBoard r).boardDue r := if_pos runs
  exact congrArg (fun x : State => Host.Outcome.next x.settleLamps) reaches

theorem State.atBoard_of_cutoffFirst {s : State} {r : Nat} (first : s.cutoffFirst r) :
    s.atBoard r = ((s.atCount r (s.route r).cfg.cutoffLead).cutoff r).modRoute r Route.reloaded := by
  unfold State.atBoard
  by_cases zero : (s.route r).cfg.cutoffLead = 0
  · have stays : s.passCutoff r = s := if_neg fun h => by omega
    rw [stays]
    dsimp only
    rw [if_pos zero, zero]
    rfl
  · have above : (s.route r).cfg.cutoffLead < (s.route r).count := first.resolve_left zero
    have passes : s.passCutoff r = (s.atCount r (s.route r).cfg.cutoffLead).cutoff r :=
      (if_pos ⟨Nat.pos_of_ne_zero zero, above⟩).trans (congrArg (State.cutoff · r) (State.modRoute_congr rfl))
    have cfg : (((s.atCount r (s.route r).cfg.cutoffLead).cutoff r).route r).cfg = (s.route r).cfg := by
      rw [(State.cutoff_turnsBoard _ r).record.cfg, State.route_atCount]
      split <;> rfl
    rw [passes]
    dsimp only
    rw [cfg, if_neg zero, State.modRoute_modRoute]
    rfl

theorem State.atBoard_of_not_cutoffFirst {s : State} {r : Nat} (no : ¬ s.cutoffFirst r) :
    s.atBoard r = s.modRoute r Route.reloaded := by
  obtain ⟨zero, below⟩ := not_or.mp no
  have stays : s.passCutoff r = s := if_neg fun h => below h.2
  unfold State.atBoard
  rw [stays]
  dsimp only
  rw [if_neg zero, State.modRoute_modRoute]
  rfl

/-- Reaching the board changes the routes, the reported slots and what emission changes. -/
theorem State.atBoard_eq (s : State) (r : Nat) :
    s.atBoard r = { s with
      routes := (s.atBoard r).routes, reported := (s.atBoard r).reported, forwardQueue := (s.atBoard r).forwardQueue,
      emitQueue := (s.atBoard r).emitQueue, ringOut := (s.atBoard r).ringOut, burst := (s.atBoard r).burst,
      flags := (s.atBoard r).flags } := by
  by_cases first : s.cutoffFirst r
  · rw [State.atBoard_of_cutoffFirst first]
    have cut := (s.atCount r (s.route r).cfg.cutoffLead).cutoff_eq r
    generalize (s.atCount r (s.route r).cfg.cutoffLead).cutoff r = x at cut
    rw [cut]
    rfl
  · rw [State.atBoard_of_not_cutoffFirst first]
    rfl

/-- The head of a route as a departure due finds it. -/
def State.headAtDue (s : State) (r : Nat) (head : Tour) : Tour :=
  if s.cutoffFirst r then
    head.passesCutoff (s.route r) (min (s.pt + s.unitTicks r (s.route r).cfg.cutoffLead) 4294967295)
  else head

theorem State.route_atBoard {s : State} {r : Nat} {head : Tour} {behind : List Tour}
    (hw : (s.route r).waiting = head :: behind) :
    (s.atBoard r).route r
      = { s.route r with count := (s.route r).cfg.period, waiting := s.headAtDue r head :: behind } := by
  have hr := State.lt_of_waiting hw
  unfold State.headAtDue
  by_cases first : s.cutoffFirst r
  · rw [State.atBoard_of_cutoffFirst first, State.route_modRoute, if_pos ⟨rfl, hr⟩, State.route_cutoff_atCount _ hw,
      if_pos first]
    rfl
  · rw [State.atBoard_of_not_cutoffFirst first, State.route_modRoute, if_pos ⟨rfl, hr⟩, if_neg first, ← hw]
    rfl

theorem State.route_atBoard_other (s : State) {r q : Nat} (hq : q ≠ r) : (s.atBoard r).route q = s.route q := by
  by_cases first : s.cutoffFirst r
  · rw [State.atBoard_of_cutoffFirst first, State.route_modRoute, if_neg (fun c => hq c.1),
      (State.cutoff_turnsBoard _ r).others q hq, State.route_atCount, if_neg (fun c => hq c.1)]
  · rw [State.atBoard_of_not_cutoffFirst first, State.route_modRoute, if_neg (fun c => hq c.1)]

/-- What a departure due finds of a FROZEN head, and of a PLANNED one that takes its cutoff on the way: a FROZEN head, timed
and numbered by the cutoff where it takes one. -/
theorem State.headAtDue_eq {s : State} {r : Nat} {head : Tour}
    (fit : head.state = .frozen ∨ head.state = .planned ∧ head.held = false ∧ s.cutoffFirst r) :
    s.headAtDue r head = { head with
      state := .frozen,
      pickState := if head.state = .planned then some (if head.entries = [] then .picked else .ready) else head.pickState,
      plannedDeparture := if head.held = false ∧ s.cutoffFirst r
        then min (s.pt + s.unitTicks r (s.route r).cfg.cutoffLead) 4294967295 else head.plannedDeparture,
      entries := (s.headAtDue r head).entries } ∧
    (s.headAtDue r head).entries.map Entry.orderId = head.entries.map Entry.orderId ∧
    (s.headAtDue r head).entries.map Entry.number = (if head.state = .planned
      then (List.range head.entries.length).map fun k => some (k + 1) else head.entries.map Entry.number) ∧
    (¬ (head.held = false ∧ s.cutoffFirst r) → (s.headAtDue r head).entries = head.entries) := by
  unfold State.headAtDue
  generalize min (s.pt + s.unitTicks r (s.route r).cfg.cutoffLead) 4294967295 = departure
  by_cases cut : head.held = false ∧ s.cutoffFirst r
  · obtain ⟨free, first⟩ := cut
    have orderIds : (head.entries.map (head.markAt (s.route r) departure)).map Entry.orderId
        = head.entries.map Entry.orderId := by
      simp [Function.comp_def, Tour.markAt_orderId]
    have numbers : (head.entries.map (head.markAt (s.route r) departure)).map Entry.number
        = head.entries.map Entry.number := by
      simp [Function.comp_def, Tour.markAt_number]
    rw [if_pos first, Tour.passesCutoff, if_neg (by simp [free]), Tour.atCutoff_eq]
    by_cases planned : head.state = .planned
    · simp only [if_pos planned, Tour.frozen, numberEntries_number, numberEntries_map Entry.orderId (fun _ _ => rfl),
        orderIds, List.length_map, Nat.add_comm 1]
      simp [free, first]
    · simp only [if_neg planned, orderIds, numbers]
      simp [free, first, fit.resolve_right (fun h => planned h.1)]
  · have same : (if s.cutoffFirst r then head.passesCutoff (s.route r) departure else head) = head := by
      by_cases first : s.cutoffFirst r
      · have held : head.held = true := by simpa using fun free => cut ⟨free, first⟩
        rw [if_pos first, Tour.passesCutoff, if_pos held]
      · exact if_neg first
    have frozen : head.state = .frozen := fit.resolve_right fun h => cut h.2
    have unplanned : head.state ≠ .planned := by simp [frozen]
    rw [same, if_neg cut, if_neg unplanned, if_neg unplanned, ← frozen]
    exact ⟨rfl, rfl, rfl, fun _ => rfl⟩

/-! ## The head that is held (R72) -/

theorem State.hold_flagSet (s : State) (r : Nat) {h : Tour} (free : h.held = false) :
    (s.hold r h).flagSet .departureHeld = true := by
  unfold State.hold
  dsimp only
  rw [if_neg (by simp [free])]
  exact State.raise_flagSet _ _

/-- A head that is held counts a slip, 15 at most (R72). -/
theorem State.route_hold (s : State) (r q : Nat) (h : Tour) :
    (s.hold r h).route q
      = (s.modHead r fun x => { x with held := true, slips := min (x.slips + 1) 15 }).route q := by
  unfold State.hold
  dsimp only
  split
  · rfl
  · exact State.route_raise _ _ q

/-- Settles O20: the head as the due finds it, whose conditions fail, is held. -/
theorem departureDueHoldsHead : Obligations.DepartureDueHoldsHead := by
  intro r head behind s hr runs settled hw cutoff pick fit fails
  have fit' : head.state = .frozen ∨ head.state = .planned ∧ head.held = false ∧ s.cutoffFirst r := fit
  obtain ⟨head', orderIds, numbers, unmarked⟩ := State.headAtDue_eq fit'
  have route := State.route_atBoard hw
  have held' : (s.headAtDue r head).held = head.held := by rw [head']
  have waits : (s.atBoard r).departureReady r (s.headAtDue r head) = false := by
    have state : (s.headAtDue r head).state = .frozen := by rw [head']
    have picks : (s.headAtDue r head).pickState = pick := by rw [head']
    have train : (s.atBoard r).train r = s.train r := by rw [State.atBoard_eq]; rfl
    rw [State.departureReady, state, picks, train, route]
    rcases fails with unpicked | unready | busy
    · simp [unpicked]
    · simp [unready]
    · simp [Option.isNone_eq_false_iff.mpr busy]
  have holds : (s.atBoard r).boardDue r = (s.atBoard r).hold r (s.headAtDue r head) := by
    rw [State.boardDue, route]
    exact if_neg (by simp [waits])
  have out := State.exec_departureDue runs
  rw [holds] at out
  refine ⟨_, { s.headAtDue r head with held := true, slips := min (head.slips + 1) 15 }, out, ?_, ?_, orderIds, numbers,
    unmarked, fun free => ?_, fun q hq => ?_, fun i => ?_, ?_⟩
  · have slips : (s.headAtDue r head).slips = head.slips := by rw [head']
    rw [State.settleLamps_route, State.route_hold, State.route_modHead, if_pos ⟨rfl, hr⟩, route]
    dsimp only
    rw [List.modifyHead_cons, slips]
  · rw [head']
  · exact (State.settleLamps_sendsNo (cls := clsPick) _ (by decide)).flags (State.hold_flagSet _ r (held'.trans free))
  · rw [State.settleLamps_route, State.route_hold, State.route_modHead, if_neg (fun c => hq c.1),
      State.route_atBoard_other s hq]
  · have same : ((s.atBoard r).hold r (s.headAtDue r head)).slot i = s.slot i := by
      rw [State.hold_eq, State.atBoard_eq]; rfl
    rw [← same]
    exact State.settleLamps_slot _ i
  · have quiet : s.reported = [] := settled
    rw [State.settleLamps_eq, State.hold_eq, State.atBoard_eq]
    simp only [quiet]

/-! ## What boards send -/

/-- A placed order sends at most the alert of its LATE mark (R85). -/
theorem State.place_sendsNo (s : State) (o : Order) (k : Nat) {cls : Nat} (ha : clsAlert ≠ cls) :
    s.sendsNo (s.place o k) cls := by
  have alerts (x : State) : x.sendsNo ((x.raise .lateOrder).report o.slot) cls :=
    ((x.raise_alertsOnce .lateOrder).sendsNo ha).trans (.of_link (by rfl) (by rfl) (by rfl) (by rfl))
  unfold State.place
  dsimp only
  split
  · exact (State.Sends.refl s).sendsNo_of_nil cls
  · split
    · exact State.sendsNo.trans (.of_link (by rfl) (by rfl) (by rfl) (by rfl)) (alerts _)
    · exact .of_link (by rfl) (by rfl) (by rfl) (by rfl)

theorem State.offerOrders_sendsNo (rs : List Nat) (os : List Order) (s : State) {cls : Nat} (ha : clsAlert ≠ cls) :
    s.sendsNo (State.offerOrders rs os s) cls := by
  induction os generalizing s with
  | nil => exact (State.Sends.refl s).sendsNo_of_nil cls
  | cons o os ih =>
    unfold State.offerOrders
    split
    · split
      · exact State.sendsNo.trans (.of_link (by rfl) (by rfl) (by rfl) (by rfl))
          ((State.place_sendsNo { s with backlog := s.backlog.erase o } o _ ha).trans (ih _))
      · exact ih s
    · exact ih s

/-- Re-timed tours send at most the alert of a LATE mark newly set (R61, R74). -/
theorem State.retimeTours_sendsNo (s : State) (r : Nat) (f : Nat → Tour → Nat) {cls : Nat} (ha : clsAlert ≠ cls) :
    s.sendsNo (s.retimeTours r f) cls :=
  State.sendsNo.trans (.of_link (by rfl) (by rfl) (by rfl) (by rfl)) ((State.noteMarks_alertsOnce _ _ _).sendsNo ha)

/-- What follows the departure of a head sends alerts and pick lists alone (R63). -/
theorem State.afterHead_sendsNo (s : State) (r : Nat) {cls : Nat} (ha : clsAlert ≠ cls) (hp : clsPick ≠ cls) :
    s.sendsNo (s.afterHead r) cls := by
  have appended : s.sendsNo (s.appendTours r) cls := by
    rw [State.appendTours_eq]
    exact .of_link rfl rfl rfl rfl
  have drained : (s.appendTours r).sendsNo ((s.appendTours r).drain [r]) cls := State.offerOrders_sendsNo _ _ _ ha
  refine (appended.trans drained).trans ?_
  unfold State.afterHead State.cutoffIfDue
  split
  · exact State.cutoff_sendsNo _ r ha hp
  · exact (State.Sends.refl _).sendsNo_of_nil cls

/-- An empty head stays empty at its cutoff. -/
theorem Tour.passesCutoff_empty {h : Tour} (empty : h.entries = []) (ro : Route) (departure : Nat) :
    (h.passesCutoff ro departure).entries = [] := by
  unfold Tour.passesCutoff
  rw [Tour.atCutoff_eq, empty]
  split
  · exact empty
  · split <;> rfl

/-- The cutoff of an empty head sends at most its LIST_READY (R66). -/
theorem State.cutoff_sends_empty {s : State} {r : Nat} {h : Tour} {rest : List Tour} (hw : (s.route r).waiting = h :: rest)
    (free : h.held = false) (planned : h.state = .planned) (empty : h.entries = []) :
    ∃ sent, s.Sends (s.cutoff r) sent ∧ sent.length ≤ 1 ∧ ∀ f ∈ sent, f.cls = clsPick := by
  have timed : s.Sends ((s.headTimed r h).modHead r Tour.frozen) [] :=
    (s.headTimed_sends_empty empty).trans (.of_link (by rfl) (by rfl) (by rfl) (by rfl))
  have none := Tour.passesCutoff_empty empty (s.route r) (s.cutoffTime r)
  rw [State.cutoff_of_planned hw free planned, State.publish_eq]
  generalize (s.headTimed r h).modHead r Tour.frozen = x at timed
  obtain ⟨p, hp⟩ := List.length_eq_one_iff.mp (x.pickPayloads_empty r none)
  rw [hp, List.foldl_cons, List.foldl_nil]
  rcases Nat.lt_or_ge x.emitQueue.length 32 with room | full
  · exact ⟨_, timed.trans (State.emit_sends room _ _ _), by simp, by simp⟩
  · exact ⟨_, timed.trans (State.emit_sends_full full _ _ _), by simp, by simp⟩

/-! ## The head that departs (R71, R117) -/

/-- The tour a head becomes as it departs: RUNNING from now, its entries LOADED with LATE evaluated (R71, R117). -/
def State.departing (s : State) (r : Nat) (h : Tour) : Tour := (h.departed (s.route r).cfg s.pt).evaluate (s.route r)

/-- The part once the head has left the waiting list, before its train starts (R71 steps 1 to 4). -/
def State.headLeft (s : State) (r : Nat) (h : Tour) (rest : List Tour) : State :=
  (s.modRoute r fun x => { x with waiting := rest, running := some (s.departing r h) }).noteMarks h.entries
    (s.departing r h).entries

/-- The part once the head's train has started. -/
def State.headGone (s : State) (r : Nat) (h : Tour) (rest : List Tour) : State :=
  (s.headLeft r h rest).startTour r (s.departing r h)

/-- A departure is the head's leaving, its train's start, the re-timing behind a held head, and what follows (R71, R74). -/
theorem State.depart_of_cons {s : State} {r : Nat} {h : Tour} {rest : List Tour} (hw : (s.route r).waiting = h :: rest) :
    ∃ f, s.depart r
      = (if h.held then (s.headGone r h rest).retimeTours r f else s.headGone r h rest).afterHead r := by
  unfold State.depart
  rw [hw]
  exact ⟨_, rfl⟩

/-- What comes after the train's start is an operation of the board, leaves the trains, adds no order to the backlog and sends
no telegram to a train. -/
theorem State.depart_after {s : State} {r : Nat} {h : Tour} {rest : List Tour} (hw : (s.route r).waiting = h :: rest) :
    (s.headGone r h rest).TurnsBoard (s.depart r) r ∧ (s.depart r).trains = (s.headGone r h rest).trains ∧
    (s.depart r).backlog.Sublist (s.headGone r h rest).backlog ∧ (s.headGone r h rest).sendsNo (s.depart r) clsTrainDown := by
  obtain ⟨f, hf⟩ := State.depart_of_cons hw
  generalize s.headGone r h rest = gone at hf
  have follows (x : State) : x.TurnsBoard (x.afterHead r) r ∧ (x.afterHead r).trains = x.trains ∧
      (x.afterHead r).backlog.Sublist x.backlog ∧ x.sendsNo (x.afterHead r) clsTrainDown :=
    ⟨x.afterHead_turnsBoard r, by rw [State.afterHead_eq], x.afterHead_backlog r,
      x.afterHead_sendsNo r (by decide) (by decide)⟩
  rw [hf]
  split
  · obtain ⟨turns, trains, backlog, sends⟩ := follows (gone.retimeTours r f)
    have retimed := gone.retimeTours_eq r f
    refine ⟨(gone.retimeTours_turnsBoard r f).trans turns, trains.trans (by rw [retimed]), ?_,
      (gone.retimeTours_sendsNo r f (by decide)).trans sends⟩
    rw [retimed] at backlog ⊢
    exact backlog
  · exact follows gone

/-- The departing tour in full. -/
theorem State.departing_eq (s : State) (r : Nat) (h : Tour) :
    s.departing r h = { h with
      state := .running, plannedDeparture := s.pt, held := false, pickState := none, currentStop := some (-1),
      window := windowOf (s.route r).cfg.confirmCode, limit := limitOf (s.route r).cfg.silenceLimit,
      entries := h.entries.map fun e => { e with
        state := .loaded, late := decide (e.due < (s.departing r h).arrival (s.route r) e.stop) } } := by
  unfold State.departing Tour.evaluate Tour.departed
  simp only [List.map_map]
  rfl

/-- The train that is sent away is ON_TOUR, with its timers set for the tour (R117). -/
theorem State.train_startTour {s : State} {r : Nat} (hr : r < 8) (t : Tour) (q : Nat) :
    (s.startTour r t).train q = if q = r then
      { s.train r with binding := (s.train r).binding.withState .onTour, silenceTimer := t.limit, confirmTimer := none }
    else s.train q := by
  unfold State.startTour State.emitTrain
  rw [State.train_modTrain, State.train_emit, State.train_emit, State.train_modTrain, State.train_modTrain]
  by_cases hq : q = r <;> simp [hq, hr]

/-- Once the head has gone it is the RUNNING tour of its route, and no other route has changed. -/
theorem State.route_headGone {s : State} {r : Nat} (hr : r < 8) (h : Tour) (rest : List Tour) (q : Nat) :
    (s.headGone r h rest).route q
      = if q = r then { s.route r with waiting := rest, running := some (s.departing r h) } else s.route q := by
  unfold State.headGone State.headLeft
  rw [State.route_startTour, State.route_noteMarks, State.route_modRoute]
  by_cases hq : q = r <;> simp [hq, hr]

theorem State.train_headGone {s : State} {r : Nat} (hr : r < 8) (h : Tour) (rest : List Tour) (q : Nat) :
    (s.headGone r h rest).train q = if q = r then
      { s.train r with binding := (s.train r).binding.withState .onTour, silenceTimer := (s.departing r h).limit,
                       confirmTimer := none }
    else s.train q := by
  unfold State.headGone State.headLeft
  rw [State.train_startTour hr, State.train_noteMarks, State.train_noteMarks]
  rfl

/-- The start of a tour sends its ROUTE_ORDER (R118). -/
theorem State.startTour_sends {s : State} (room : s.emitQueue.length < 32) (r : Nat) (t : Tour) :
    s.Sends (s.startTour r t) [Frame.make clsTrainDown s.lineConfig.radioBridge (s.station.getD 0)
      (routeOrder r ((s.train r).binding.trainId.getD 0) t (t.stopList (s.route r)))] := by
  have on : s.Sends (s.modTrain r fun u => { u with binding := u.binding.withState .onTour }) [] :=
    .of_link rfl rfl rfl rfl
  have told := on.trans (State.emit_sends (s := s.modTrain r fun u => { u with binding := u.binding.withState .onTour })
    room clsTrainDown s.lineConfig.radioBridge
    (routeOrder r ((s.train r).binding.trainId.getD 0) t (t.stopList (s.route r))))
  exact told.trans (.of_link (by rfl) (by rfl) (by rfl) (by rfl))

/-- What is sent before the ROUTE_ORDER of a head that departs when due: the alert of a LATE mark at most, or the LIST_READY of
an empty head that its cutoff freezes on the way. -/
theorem State.headLeft_sends {s : State} {r : Nat} {head : Tour} {behind : List Tour}
    (hw : (s.route r).waiting = head :: behind)
    (fit : head.state ≠ .planned ∨ head.state = .planned ∧ head.entries = [] ∧ head.held = false) :
    ∃ sent, s.Sends ((s.atBoard r).headLeft r (s.headAtDue r head) behind) sent ∧ sent.length ≤ 1 ∧
      ∀ f ∈ sent, f.cls ≠ clsTrainDown := by
  have hr := State.lt_of_waiting hw
  have hw0 : ((s.atCount r (s.route r).cfg.cutoffLead).route r).waiting = head :: behind := by
    rw [State.route_atCount, if_pos ⟨rfl, hr⟩]
    exact hw
  rcases fit with waits | ⟨planned, empty, free⟩
  · have board : s.alertsOnce (s.atBoard r) .lateOrder := by
      by_cases first : s.cutoffFirst r
      · rw [State.atBoard_of_cutoffFirst first]
        exact ((State.alertsOnce.of_sends_nil (s.atCount_sends r _) _).trans
          (State.cutoff_alertsOnce (s := s.atCount r (s.route r).cfg.cutoffLead) (r := r) (by simpa [hw0] using waits))).trans
            (.of_sends_nil (.of_link (by rfl) (by rfl) (by rfl) (by rfl)) _)
      · rw [State.atBoard_of_not_cutoffFirst first]
        exact .of_sends_nil (.of_link (by rfl) (by rfl) (by rfl) (by rfl)) _
    have left : (s.atBoard r).alertsOnce ((s.atBoard r).headLeft r (s.headAtDue r head) behind) .lateOrder :=
      State.alertsOnce.trans (.of_sends_nil (.of_link (by rfl) (by rfl) (by rfl) (by rfl)) _)
        (State.noteMarks_alertsOnce _ _ _)
    obtain ⟨sent, sends, alerts, few, -⟩ := board.trans left
    exact ⟨sent, sends, few, fun f hf => by rw [alerts f hf]; decide⟩
  · have none : (s.headAtDue r head).entries = [] := by
      unfold State.headAtDue
      split
      · exact Tour.passesCutoff_empty empty _ _
      · exact empty
    have board : ∃ sent, s.Sends (s.atBoard r) sent ∧ sent.length ≤ 1 ∧ ∀ f ∈ sent, f.cls = clsPick := by
      by_cases first : s.cutoffFirst r
      · obtain ⟨sent, sends, few, picks⟩ := State.cutoff_sends_empty hw0 free planned empty
        have all := ((s.atCount_sends r _).trans sends).trans
          (State.Sends.of_link (t := State.modRoute _ r Route.reloaded) (by rfl) (by rfl) (by rfl) (by rfl))
        rw [State.atBoard_of_cutoffFirst first]
        exact ⟨sent, by simpa using all, few, picks⟩
      · rw [State.atBoard_of_not_cutoffFirst first]
        exact ⟨[], .of_link rfl rfl rfl rfl, by simp, by simp⟩
    have left : (s.atBoard r).Sends ((s.atBoard r).headLeft r (s.headAtDue r head) behind) [] := by
      unfold State.headLeft
      rw [State.departing_eq, none, List.map_nil, State.noteMarks_nil]
      exact .of_link rfl rfl rfl rfl
    obtain ⟨sent, sends, few, picks⟩ := board
    exact ⟨sent, by simpa using sends.trans left, few, fun f hf => by rw [picks f hf]; decide⟩

/-- A tour's stop list depends on its route by the static fields and the stored stops (R38, R134). -/
theorem Tour.stopList_congr (t : Tour) {ro ro' : Route} (cfg : ro.cfg = ro'.cfg) (stops : ro.stops = ro'.stops) :
    t.stopList ro = t.stopList ro' := by
  unfold Tour.stopList Route.stopList
  rw [cfg, stops]

/-- The head's leaving keeps the link's settings, the trains, the backlog and its route's stored stops. -/
theorem State.headLeft_frame {s : State} {r : Nat} (hr : r < 8) (h : Tour) (rest : List Tour) :
    (s.headLeft r h rest).lineConfig = s.lineConfig ∧ (s.headLeft r h rest).station = s.station ∧
    (s.headLeft r h rest).trains = s.trains ∧ (s.headLeft r h rest).backlog = s.backlog ∧
    ((s.headLeft r h rest).route r).cfg = (s.route r).cfg ∧ ((s.headLeft r h rest).route r).stops = (s.route r).stops := by
  have route : (s.headLeft r h rest).route r
      = { s.route r with waiting := rest, running := some (s.departing r h) } := by
    rw [State.headLeft, State.route_noteMarks, State.route_modRoute, if_pos ⟨rfl, hr⟩]
  refine ⟨?_, ?_, ?_, ?_, ?_, ?_⟩
  · rw [State.headLeft, State.noteMarks_eq]; rfl
  · rw [State.headLeft, State.noteMarks_eq]; rfl
  · rw [State.headLeft, State.noteMarks_eq]; rfl
  · rw [State.headLeft, State.noteMarks_eq]; rfl
  · rw [route]; rfl
  · rw [route]

/-- Settles O21: the head departs, its train is told, and what follows is an operation of the board. -/
theorem departureDueDepartsHead : Obligations.DepartureDueDepartsHead := by
  intro r head behind train capacity s hr runs lead hw fit bound idle
  have fit' : head.state = .frozen ∨ head.state = .planned ∧ head.held = false ∧ s.cutoffFirst r := by
    rcases fit with ⟨frozen, -⟩ | ⟨planned, -, free, first⟩
    · exact .inl frozen
    · exact .inr ⟨planned, free, first⟩
  obtain ⟨head', orderIds, -, -⟩ := State.headAtDue_eq fit'
  generalize hd : s.headAtDue r head = due at head' orderIds
  have picks : due.pickState = some .picked := by
    rw [head']
    rcases fit with ⟨frozen, picked⟩ | ⟨planned, empty, -⟩
    · simp [frozen, picked]
    · simp [planned, empty]
  have before : ∃ sent, s.Sends ((s.atBoard r).headLeft r due behind) sent ∧ sent.length ≤ 1 ∧
      ∀ f ∈ sent, f.cls ≠ clsTrainDown := by
    rw [← hd]
    refine State.headLeft_sends hw ?_
    rcases fit with ⟨frozen, -⟩ | ⟨planned, empty, free, -⟩
    · exact .inl (by simp [frozen])
    · exact .inr ⟨planned, empty, free⟩
  have route := State.route_atBoard hw
  rw [hd] at route
  have others (q : Nat) (hq : q ≠ r) := s.route_atBoard_other hq
  have frame := s.atBoard_eq r
  have out := State.exec_departureDue runs
  generalize s.atBoard r = b at before route others frame out
  have hwb : (b.route r).waiting = due :: behind := by rw [route]
  have trainB (q : Nat) : b.train q = s.train q := by rw [frame]; rfl
  have departs : b.boardDue r = b.depart r := by
    have ready : b.departureReady r due = true := by
      have state : due.state = .frozen := by rw [head']
      rw [State.departureReady, state, picks, trainB, bound, route]
      simp [Binding.isReady, idle]
    rw [State.boardDue, hwb]
    exact if_pos ready
  rw [departs] at out
  obtain ⟨turns, trains, backlog, sends⟩ := State.depart_after hwb
  have departing := b.departing_eq r due
  have routeG := State.route_headGone (s := b) hr due behind
  have trainG := State.train_headGone (s := b) hr due behind
  generalize hgone : b.departing r due = gone at departing routeG trainG
  have cfg : (b.route r).cfg = (s.route r).cfg := by rw [route]; rfl
  have stops : (b.route r).stops = (s.route r).stops := by rw [route]
  have pt : b.pt = s.pt := by rw [frame]
  rw [cfg, pt, Tour.arrival_congr gone stops] at departing
  obtain ⟨lineL, stationL, trainsL, backlogL, cfgL, stopsL⟩ := State.headLeft_frame (s := b) hr due behind
  have lineB : b.lineConfig = s.lineConfig := by rw [frame]
  have stationB : b.station = s.station := by rw [frame]
  have backlogB : b.backlog = s.backlog := by rw [frame]
  have turned (q : Nat) : ((b.depart r).settleLamps).train q
      = if q = r then { s.train r with binding := .bound train capacity .onTour, silenceTimer := gone.limit,
                                       confirmTimer := none } else s.train q := by
    have after : (b.depart r).train q = (b.headGone r due behind).train q := by rw [State.train, trains]; rfl
    rw [State.settleLamps_train, after, trainG, trainB, trainB, bound]
    rfl
  have plan : gone.plan = head.plan := by rw [departing, head']
  refine ⟨_, gone, out, ?_, ?_, ?_, ?_, ?_, ?_, ?_, ?_, ?_, ?_, ?_, ?_, ?_, ?_, ?_, ?_, ?_, ?_, ?_, ?_, ?_, ?_⟩
  · rw [State.settleLamps_route, turns.record.running, routeG, if_pos rfl]
  · rw [departing, head']
  · rw [departing]
  · rw [departing]
  · rw [departing]
  · rw [departing, head']
  · rw [departing]
  · rw [departing]
  · rw [← orderIds, departing, List.map_map]
    rfl
  · intro e he
    rw [departing] at he
    obtain ⟨x, -, rfl⟩ := List.mem_map.mp he
    exact ⟨rfl, rfl⟩
  · rw [departing]
  · rw [departing]
  · rw [State.settleLamps_route, turns.record.count, routeG, if_pos rfl, route]
  · rw [turned, if_pos rfl]
  · rw [turned, if_pos rfl]
  · rw [turned, if_pos rfl]
  · obtain ⟨sent, sends0, few, quiet⟩ := before
    refine State.sendsSeries_of_before sends0 few quiet fun room => ?_
    have told := State.startTour_sends (s := b.headLeft r due behind) (Nat.lt_of_succ_le room) r gone
    have asked : ((b.headLeft r due behind).train r).binding.trainId.getD 0 = train := by
      rw [State.train, trainsL, ← State.train, trainB, bound]
      rfl
    have items := Tour.stopList_congr gone (cfgL.trans cfg) (stopsL.trans stops)
    have after : (b.headLeft r due behind).startTour r gone = b.headGone r due behind := by rw [State.headGone, hgone]
    rw [asked, items, lineL, stationL, after, lineB, stationB] at told
    exact ⟨_, told, sends.trans (State.settleLamps_sendsNo _ (by decide))⟩
  · intro plain
    simp [Tour.stopList, plan, plain, Route.stopList, stopItems, Function.comp_def]
  · intro q hq
    rw [turned, if_neg hq]
  · intro q hq
    rw [State.settleLamps_route, turns.others q hq, routeG, if_neg hq, others q hq]
  · have same : (b.headGone r due behind).backlog = s.backlog := by
      rw [State.headGone, State.startTour_eq, ← backlogB]
      exact backlogL
    rw [State.settleLamps_backlog, ← same]
    exact backlog
  · rw [State.settleLamps_eq, State.depart_eq, frame]

end Sys2Proof.Machine
end

section
/-! One tick of the oscillator: the clocks one tick later, the marks they reach, and the command that each mark stands for
(R44, R46, R47, R115, R122, R126, R165, R166, R170). -/

namespace Sys2Proof.Machine

/-! ## The clocks one tick later -/

/-- The model's test of a route whose timer falls at a tick is the one of the statements (R43, R44). -/
theorem State.fallsAtTick_iff (s : State) (r : Nat) : s.fallsAtTick r = true ↔ s.countsTicks r := by
  simp [State.fallsAtTick, State.timerRuns, State.countsTicks, and_assoc]

theorem State.route_advanced {s : State} {r : Nat} (hr : r < 8) :
    s.advanced.route r = if s.fallsAtTick r then { s.route r with count := (s.route r).count - 1 } else s.route r := by
  rw [State.route, State.advanced]
  dsimp only
  rw [getD_tabulate, if_pos hr]

theorem State.train_advanced {s : State} {r : Nat} (hr : r < 8) :
    s.advanced.train r = { s.train r with
      binding := if s.mode = .uncommissioned then (s.train r).binding else (s.train r).binding.ticked,
      confirmTimer := tickDown (s.train r).confirmTimer, silenceTimer := tickDown (s.train r).silenceTimer } := by
  rw [State.train, State.advanced]
  dsimp only
  rw [getD_mapTable (d := TrainUnit.blank), if_pos hr]
  rfl

/-- A route's timer falls at the next tick as well. -/
theorem State.fallsAtTick_advanced {s : State} {r : Nat} (hr : r < 8) : s.advanced.fallsAtTick r = s.fallsAtTick r := by
  rw [State.fallsAtTick, State.timerRuns, State.route_advanced hr]
  by_cases falls : s.fallsAtTick r = true
  · rw [if_pos falls]
    rfl
  · rw [if_neg falls]
    rfl

/-- One tick on is what the model's clocks make of the part. -/
theorem State.tickedTo_advanced {s later : State} (h : s.tickedTo later) : later = s.advanced := by
  obtain ⟨pt, boards, storeOp, frame⟩ := h
  have routes : later.routes = s.advanced.routes := by
    ext r hr
    obtain ⟨falls, stays, -⟩ := boards r hr
    have same : later.route r = s.advanced.route r := by
      rw [State.route_advanced hr]
      by_cases counts : s.countsTicks r
      · rw [falls counts, if_pos ((s.fallsAtTick_iff r).mpr counts)]
      · rw [stays counts, if_neg (fun f => counts ((s.fallsAtTick_iff r).mp f))]
    simpa [State.route, Vector.getD, hr] using same
  have trains : later.trains = s.advanced.trains := by
    ext r hr
    obtain ⟨-, -, falls⟩ := boards r hr
    have same : later.train r = s.advanced.train r := by
      rw [State.train_advanced hr, falls]
      cases s.mode <;> cases (s.train r).binding <;> rfl
    simpa [State.train, Vector.getD, hr] using same
  rw [frame, pt, routes, trains, storeOp]
  rfl

/-! ## Marks -/

/-- The route of a mark, 0 for a mark of none. -/
def Mark.route : Mark → Nat
  | .offer r | .confirmation r | .silence r => r
  | .saturation | .counts | .store => 0

/-- The mark of the tick that a command stands for; `none` for one that no clock brings about. -/
def markOfCommand : Instr → Option Mark
  | .departureDue _ | .cutoffReached _ => some .counts
  | .offerTimerExpiry r => some (.offer r)
  | .confirmationTimerExpiry r => some (.confirmation r)
  | .silenceTimerExpiry r => some (.silence r)
  | .ptSaturation => some .saturation
  | .saveCompletion | .eraseCompletion => some .store
  | _ => none

theorem markOf_route_lt : ∀ n < 27, (markOf n).route < 8 := by decide

theorem markOf_injective : ∀ n < 27, ∀ k < 27, markOf n = markOf k → n = k := by decide

theorem markOf_offer : ∀ r < 8, markOf (r + 2) = .offer r := by decide
theorem markOf_confirmation : ∀ r < 8, markOf (r + 10) = .confirmation r := by decide
theorem markOf_silence : ∀ r < 8, markOf (r + 18) = .silence r := by decide

/-- The counts of a route that fell to a mark at this tick. -/
theorem State.countDue_advanced {s : State} {r : Nat} (hr : r < 8) :
    s.advanced.countDue r = true ↔ s.countsTicks r ∧
      ((s.advanced.route r).count = 0 ∨ (s.advanced.route r).count = (s.advanced.route r).cfg.cutoffLead) := by
  simp [State.countDue, State.fallsAtTick_advanced hr, State.fallsAtTick_iff]

theorem State.reached_counts {s : State} {r : Nat} (hr : r < 8) (due : s.advanced.countDue r = true) :
    State.reached s s.advanced .counts = true :=
  List.any_eq_true.mpr ⟨r, List.mem_range.mpr hr, due⟩

/-- The mark of a command that a tick reaches stands reached. -/
theorem State.reached_of_tickReaches {s : State} {c : Instr} (h : s.tickReaches s.advanced c) :
    ∃ n < 27, markOfCommand c = some (markOf n) ∧ State.reached s s.advanced (markOf n) = true := by
  cases c
  case departureDue r =>
    obtain ⟨hr, counts, zero⟩ := h
    exact ⟨1, by decide, rfl, State.reached_counts hr ((State.countDue_advanced hr).mpr ⟨counts, .inl zero⟩)⟩
  case cutoffReached r =>
    obtain ⟨hr, counts, -, lead⟩ := h
    exact ⟨1, by decide, rfl, State.reached_counts hr ((State.countDue_advanced hr).mpr ⟨counts, .inr lead⟩)⟩
  case offerTimerExpiry r =>
    obtain ⟨hr, train, capacity, offered⟩ := h
    refine ⟨r + 2, by omega, by rw [markOf_offer r hr]; rfl, ?_⟩
    rw [markOf_offer r hr, State.reached, offered]
    rfl
  case confirmationTimerExpiry r =>
    obtain ⟨hr, zero⟩ := h
    refine ⟨r + 10, by omega, by rw [markOf_confirmation r hr]; rfl, ?_⟩
    rw [markOf_confirmation r hr, State.reached, zero]
    rfl
  case silenceTimerExpiry r =>
    obtain ⟨hr, zero⟩ := h
    refine ⟨r + 18, by omega, by rw [markOf_silence r hr]; rfl, ?_⟩
    rw [markOf_silence r hr, State.reached, zero]
    rfl
  case ptSaturation =>
    obtain ⟨below, full⟩ := h
    refine ⟨0, by decide, rfl, ?_⟩
    show (s.advanced.pt == 4294967295 && s.pt != 4294967295) = true
    simp [full, Nat.ne_of_lt below]
  case saveCompletion =>
    obtain ⟨op, image, runs, -, ended⟩ := h
    refine ⟨26, by decide, rfl, ?_⟩
    show s.advanced.storeOp.any (fun op => decide (20 ≤ op.elapsed)) = true
    simp [runs, ended]
  case eraseCompletion =>
    obtain ⟨op, runs, -, ended⟩ := h
    refine ⟨26, by decide, rfl, ?_⟩
    show s.advanced.storeOp.any (fun op => decide (20 ≤ op.elapsed)) = true
    simp [runs, ended]
  all_goals exact h.elim

/-- A mark that stands reached is that of a command the tick reaches. -/
theorem State.tickReaches_of_reached {s : State} {n : Nat} (hn : n < 27) (inRange : s.pt ≤ 4294967295)
    (h : State.reached s s.advanced (markOf n) = true) :
    ∃ c, s.tickReaches s.advanced c ∧ markOfCommand c = some (markOf n) := by
  have bound := markOf_route_lt n hn
  cases hm : markOf n <;> rw [hm] at h bound
  case saturation =>
    have sat : (s.advanced.pt == 4294967295 && s.pt != 4294967295) = true := h
    simp only [Bool.and_eq_true, beq_iff_eq, bne_iff_ne] at sat
    exact ⟨.ptSaturation, ⟨Nat.lt_of_le_of_ne inRange sat.2, sat.1⟩, rfl⟩
  case counts =>
    obtain ⟨r, hr, due⟩ := List.any_eq_true.mp h
    have hr : r < 8 := List.mem_range.mp hr
    obtain ⟨counts, mark⟩ := (State.countDue_advanced hr).mp due
    by_cases zero : (s.advanced.route r).count = 0
    · exact ⟨.departureDue r, ⟨hr, counts, zero⟩, rfl⟩
    · exact ⟨.cutoffReached r, ⟨hr, counts, zero, mark.resolve_left zero⟩, rfl⟩
  case offer r =>
    cases hb : (s.advanced.train r).binding <;> simp only [State.reached, hb] at h
    case offered train capacity left =>
      have zero : left = 0 := by simpa using h
      exact ⟨.offerTimerExpiry r, ⟨bound, train, capacity, zero ▸ hb⟩, rfl⟩
    all_goals exact absurd h (by decide)
  case confirmation r => exact ⟨.confirmationTimerExpiry r, ⟨bound, by simpa [State.reached] using h⟩, rfl⟩
  case silence r => exact ⟨.silenceTimerExpiry r, ⟨bound, by simpa [State.reached] using h⟩, rfl⟩
  case store =>
    have ended : s.advanced.storeOp.any (fun op => decide (20 ≤ op.elapsed)) = true := h
    obtain ⟨op, runs, ended⟩ : ∃ op, s.advanced.storeOp = some op ∧ 20 ≤ op.elapsed := by
      simpa [Option.any_eq_true] using ended
    cases work : op.work with
    | erase => exact ⟨.eraseCompletion, ⟨op, runs, work, ended⟩, rfl⟩
    | write image => exact ⟨.saveCompletion, ⟨op, image, runs, work, ended⟩, rfl⟩

/-! ## The order of the marks -/

theorem filter_range_eq_singleton {m n : Nat} {p : Nat → Bool} (hn : n < m) (h : ∀ k < m, p k = true ↔ k = n) :
    (List.range m).filter p = [n] := by
  have same : (List.range m).filter p = (List.range m).filter (· == n) :=
    List.filter_congr fun k hk => by
      rw [Bool.eq_iff_iff, h k (List.mem_range.mp hk), beq_iff_eq]
  rw [same, List.filter_beq, List.nodup_range.count, if_pos (List.mem_range.mpr hn)]
  rfl

/-- A tick that reaches no mark takes none. -/
theorem State.markOrder_none {s : State} (inRange : s.pt ≤ 4294967295) (none : ∀ c, ¬ s.tickReaches s.advanced c) :
    State.markOrder s s.advanced = [] := by
  have empty : (List.range 27).filter (fun n => State.reached s s.advanced (markOf n)) = [] :=
    List.filter_eq_nil_iff.mpr fun n hn reached => by
      obtain ⟨c, hc, -⟩ := State.tickReaches_of_reached (List.mem_range.mp hn) inRange reached
      exact none c hc
  rw [State.markOrder, empty]
  rfl

/-- A tick that reaches the mark of one command alone takes that mark. -/
theorem State.markOrder_one {s : State} {c : Instr} (inRange : s.pt ≤ 4294967295) (hc : s.tickReaches s.advanced c)
    (only : ∀ d, s.tickReaches s.advanced d → d = c) :
    ∃ n, markOfCommand c = some (markOf n) ∧ State.reached s s.advanced (markOf n) = true ∧
      State.markOrder s s.advanced = [n] := by
  obtain ⟨n, hn, mark, reached⟩ := State.reached_of_tickReaches hc
  have one : (List.range 27).filter (fun n => State.reached s s.advanced (markOf n)) = [n] :=
    filter_range_eq_singleton hn fun k hk => by
      refine ⟨fun reached' => ?_, fun e => e ▸ reached⟩
      obtain ⟨d, hd, mark'⟩ := State.tickReaches_of_reached hk inRange reached'
      rw [only d hd, mark] at mark'
      exact (markOf_injective n hn k hk (Option.some.inj mark')).symm
  refine ⟨n, mark, reached, ?_⟩
  rw [State.markOrder, one]
  rfl

/-! ## What an event of a tick leaves of PT -/

/-- A rollback of an entry, or its drop, keeps PT. -/
theorem State.rollbackOrDrop_pt (s : State) (origin : Origin) (e : Entry) : (s.rollbackOrDrop origin e).pt = s.pt := by
  unfold State.rollbackOrDrop
  split
  · rw [State.rollback_eq]
  · rw [State.drop_eq]

theorem State.autoDissolve_pt (s : State) (t : Tour) : (s.autoDissolve t).pt = s.pt := by
  have back (es : List Entry) (x : State) : (es.foldl (fun x e => x.rollbackOrDrop .dissolved e) x).pt = x.pt := by
    induction es generalizing x with
    | nil => rfl
    | cons e es ih => rw [List.foldl_cons, ih, State.rollbackOrDrop_pt]
  rw [State.autoDissolve, State.raise_pt, back]

theorem State.storeTour_pt (s : State) (t : Tour) (r train : Nat) (cause : Cause) :
    (s.storeTour t r train cause).pt = s.pt := by
  unfold State.storeTour
  split
  · rfl
  · split
    · exact s.autoDissolve_pt t
    · split
      · exact s.autoDissolve_pt t
      · rfl

theorem State.silenceExpires_pt (s : State) (r : Nat) : (s.silenceExpires r).pt = s.pt := by
  unfold State.silenceExpires State.interrupt State.unbind State.stopTimers
  split
  · rfl
  · split
    · simp [State.storeTour_pt]
    · rfl

theorem State.confirmationExpires_pt (s : State) (r : Nat) : (s.confirmationExpires r).pt = s.pt := by
  unfold State.confirmationExpires
  split
  · rfl
  · split
    · rw [State.presume_eq]; rfl
    · rfl

theorem State.lapseOffer_pt (s : State) (r : Nat) : (s.lapseOffer r).pt = s.pt := by
  unfold State.lapseOffer
  split <;> rfl

theorem State.eraseEnds_pt (s : State) : s.eraseEnds.pt = s.pt := by
  unfold State.eraseEnds State.reply
  split
  · split
    · exact s.emit_pt _ _ _
    · rfl
  · rfl

theorem State.saveEnds_pt (s : State) : s.saveEnds.pt = s.pt := by
  unfold State.saveEnds State.reply
  split
  · split
    · rw [State.raise_pt, State.emit_pt]
    · rfl
  · rfl

theorem State.countEvent_pt (s : State) (r : Nat) : (s.countEvent r).pt = s.pt := by
  unfold State.countEvent
  split
  · rw [State.due_eq]
  · rw [State.cutoff_eq]

theorem State.markEvent_pt (old s : State) (m : Mark) : (State.markEvent old s m).pt = s.pt := by
  have counts (rs : List Nat) (x : State) : (rs.foldl (fun x r => (x.countEvent r).settleLamps) x).pt = x.pt := by
    induction rs generalizing x with
    | nil => rfl
    | cons r rs ih => rw [List.foldl_cons, ih, State.settleLamps_pt, State.countEvent_pt]
  unfold State.markEvent
  split
  · cases m with
    | saturation => exact s.raise_pt _
    | counts => exact counts _ s
    | offer r => exact s.lapseOffer_pt r
    | confirmation r => exact (State.settleLamps_pt _).trans (s.confirmationExpires_pt r)
    | silence r => exact (State.settleLamps_pt _).trans (s.silenceExpires_pt r)
    | store => exact (State.eraseEnds_pt _).trans s.saveEnds_pt
  · rfl

/-- A tick adds one to PT, which holds at its largest value (R166). -/
theorem State.tick_pt {s : State} (awake : s.resetLow = false) : s.tick.pt = min (s.pt + 1) 4294967295 := by
  have events (ms : List Mark) (x : State) : (ms.foldl (State.markEvent s) x).pt = x.pt := by
    induction ms generalizing x with
    | nil => rfl
    | cons m ms ih => rw [List.foldl_cons, ih, State.markEvent_pt]
  rw [State.tick, if_neg (by simp [awake])]
  exact events _ _

/-! ## One event of a tick and its command -/

/-- A count that stands at 0 falls through no cutoff on its way to the departure due. -/
theorem State.reachDue_of_zero {s : State} {r : Nat} (runs : s.timerRuns r = true) (zero : (s.route r).count = 0) :
    s.reachDue r = s.due r := by
  have stays : s.passCutoff r = s := if_neg fun h => by omega
  rw [State.reachDue, if_pos runs, stays]

/-- A change that leaves a route's record as it stands changes nothing. -/
theorem State.modRoute_id {s : State} {r : Nat} {f : Route → Route} (h : f (s.route r) = s.route r) : s.modRoute r f = s := by
  have same : s.modRoute r f = s.modRoute r id := State.modRoute_congr h
  rw [same]
  unfold State.modRoute modifyAt
  split
  · simp
  · rfl

/-- A count that stands at cutoff_lead is there already. -/
theorem State.reachCutoff_of_lead {s : State} {r : Nat} (runs : s.timerRuns r = true) (above : (s.route r).count ≠ 0)
    (lead : (s.route r).count = (s.route r).cfg.cutoffLead) : s.reachCutoff r = s.cutoff r := by
  rw [State.reachCutoff, if_pos runs, if_neg (lead ▸ above),
    State.modRoute_id (f := fun ro => { ro with count := min ro.count ro.cfg.cutoffLead }) (by rw [← lead, Nat.min_self])]

/-- PT at its largest value raises TIME_SATURATED (R166). -/
theorem State.reachMaxTime_of_below {s : State} (awake : s.resetLow = false) (below : s.pt < 4294967295) :
    s.reachMaxTime = State.raise { s with pt := 4294967295 } .timeSaturated :=
  if_neg fun h => by
    rcases h with low | full
    · simp [awake] at low
    · exact Nat.not_lt.mpr full below

/-- A save that ends leaves no store operation, so no erase ends with it. -/
theorem State.eraseEnds_saveEnds {s : State} {op : StoreOp} {image : Image} (runs : s.storeOp = some op)
    (work : op.work = .write image) : s.saveEnds.eraseEnds = s.saveEnds := by
  have ended : s.saveEnds.storeOp = none := by
    simp [State.saveEnds, runs, work, State.reply]
  rw [State.eraseEnds, ended]

/-- An erase that runs is no save that ends. -/
theorem State.saveEnds_of_erase {s : State} {op : StoreOp} (runs : s.storeOp = some op) (work : op.work = .erase) :
    s.saveEnds = s := by
  rw [State.saveEnds, runs]
  dsimp only
  rw [work]

/-- Where one route's count alone stands at a mark, the event of the counts is that route's. -/
theorem State.countsEvent_one {s : State} {r : Nat} (hr : r < 8)
    (due : ∀ q < 8, s.advanced.countDue q = true ↔ q = r) :
    State.markEvent s s.advanced .counts = (s.advanced.countEvent r).settleLamps := by
  have reached := State.reached_counts hr ((due r hr).mpr rfl)
  have one : (List.range 8).filter s.advanced.countDue = [r] := filter_range_eq_singleton hr due
  rw [State.markEvent, if_pos reached]
  rw [show Config.routeCount = 8 from rfl, one]
  rfl

/-- A route whose timer fell runs it still. -/
theorem State.timerRuns_advanced {s : State} {r : Nat} (hr : r < 8) (counts : s.countsTicks r) :
    s.advanced.timerRuns r = true := by
  have falls := (State.fallsAtTick_advanced hr).trans ((s.fallsAtTick_iff r).mpr counts)
  exact (Bool.and_eq_true_iff.mp falls).1

/-- Where a tick reaches the mark of one command alone, no other route's count stands at a mark. -/
theorem State.countDue_only {s : State} {r : Nat} {c : Instr} (due : s.advanced.countDue r = true)
    (only : ∀ d, s.tickReaches s.advanced d → d = c) (named : c = .departureDue r ∨ c = .cutoffReached r) :
    ∀ q < 8, s.advanced.countDue q = true ↔ q = r := by
  intro q hq
  refine ⟨fun dueQ => ?_, fun e => e ▸ due⟩
  obtain ⟨counts, mark⟩ := (State.countDue_advanced hq).mp dueQ
  by_cases zero : (s.advanced.route q).count = 0
  · have same := only (.departureDue q) ⟨hq, counts, zero⟩
    rcases named with rfl | rfl
    · exact Instr.departureDue.inj same
    · exact Instr.noConfusion same
  · have same := only (.cutoffReached q) ⟨hq, counts, zero, mark.resolve_left zero⟩
    rcases named with rfl | rfl
    · exact Instr.noConfusion same
    · exact Instr.cutoffReached.inj same

/-- The command of the one mark that a tick reaches does what the mark's event does. -/
theorem State.exec_of_tickReaches {s : State} {c : Instr} {m : Mark} (awake : s.resetLow = false)
    (hc : s.tickReaches s.advanced c) (only : ∀ d, s.tickReaches s.advanced d → d = c) (mark : markOfCommand c = some m)
    (reached : State.reached s s.advanced m = true) :
    exec c (if c = .ptSaturation then { s.advanced with pt := s.pt } else s.advanced)
      = .next (State.markEvent s s.advanced m) := by
  cases c <;> cases mark
  case departureDue r =>
    obtain ⟨hr, counts, zero⟩ := hc
    have due := (State.countDue_advanced hr).mpr ⟨counts, .inl zero⟩
    rw [State.countsEvent_one hr (State.countDue_only due only (.inl rfl)), State.countEvent, if_pos zero,
      ← State.reachDue_of_zero (State.timerRuns_advanced hr counts) zero]
    rfl
  case cutoffReached r =>
    obtain ⟨hr, counts, above, lead⟩ := hc
    have due := (State.countDue_advanced hr).mpr ⟨counts, .inr lead⟩
    rw [State.countsEvent_one hr (State.countDue_only due only (.inr rfl)), State.countEvent, if_neg above,
      ← State.reachCutoff_of_lead (State.timerRuns_advanced hr counts) above lead]
    rfl
  case ptSaturation =>
    obtain ⟨below, full⟩ := hc
    have saturates := State.reachMaxTime_of_below (s := { s.advanced with pt := s.pt }) awake below
    rw [← full] at saturates
    rw [State.markEvent, if_pos reached, if_pos rfl]
    exact congrArg Host.Outcome.next saturates
  case saveCompletion =>
    obtain ⟨op, image, runs, work, -⟩ := hc
    rw [State.markEvent, if_pos reached]
    exact congrArg Host.Outcome.next (State.eraseEnds_saveEnds runs work).symm
  case eraseCompletion =>
    obtain ⟨op, runs, work, -⟩ := hc
    rw [State.markEvent, if_pos reached]
    exact congrArg (fun x : State => Host.Outcome.next x.eraseEnds) (State.saveEnds_of_erase runs work).symm
  all_goals
    rw [State.markEvent, if_pos reached]
    rfl

/-- A tick that reaches one mark at most draws no order. -/
theorem State.tick_of_order {s : State} (awake : s.resetLow = false) {ns : List Nat}
    (order : State.markOrder s s.advanced = ns) (few : ns.length < 2) :
    s.tick = (ns.map markOf).foldl (State.markEvent s) s.advanced := by
  rw [State.tick, if_neg (by simp [awake])]
  dsimp only
  rw [order, if_pos few]

/-- Settles O2: the clocks advance, and the one mark they reach has its command's event. -/
theorem ticksPassTime : Obligations.TicksPassTime := by
  intro s empty
  have ticks : step s = .next s.tick := by rw [step, empty]
  refine ⟨fun low => ?_, fun awake inRange => ⟨⟨_, ticks, State.tick_pt awake⟩, fun later on => ?_⟩⟩
  · rw [ticks, State.tick, if_pos low]
  · obtain rfl := State.tickedTo_advanced on
    refine ⟨fun none => ?_, fun c hc only => ?_⟩
    · rw [ticks, State.tick_of_order awake (State.markOrder_none inRange none) (by decide)]
      rfl
    · obtain ⟨n, mark, reached, order⟩ := State.markOrder_one inRange hc only
      rw [ticks, State.tick_of_order awake order (by simp), State.exec_of_tickReaches awake hc only mark reached]
      rfl

end Sys2Proof.Machine
end

section
/-! The release of RESET_N on a part that an earlier reset did not clear: start-up loads the image over whatever records stand,
so the records are free outside RUN only where they were free before (R132, R172). -/

namespace Sys2Proof.Machine

/-- Start-up from an image without auto-start enters SETUP and leaves the interrupted tour records as they stand: a reset frees
them, not the release that follows it (R172). -/
theorem State.pinReleased_of_image {s : State} {image : Image} (low : s.resetLow = true) (stored : s.store = .valid image)
    (manual : image.autoStart = false) : s.pinReleased.mode = .setup ∧ s.pinReleased.records = s.records := by
  simp [State.pinReleased, low, State.startUp, stored, State.loadImage, manual]

/-- Refutes O59: its premises allow a part that RESET_N holds while it is in RUN with live records. No reset leaves such a part,
but the premises do not say so, and the release of the pin takes it to SETUP with its records live. -/
theorem not_modesStaySound : ¬ Obligations.ModesStaySound := by
  intro keeps
  let kept : Record :=
    { route := 0, tour := 1, train := 33, cause := .silent, time := 0, faultStop := 0, stops := [], window := none,
      limit := none, pending := [], resumeCount := 0 }
  let s : State := { State.reset with
    mode := .run, station := some 1, server := some 2, records := Vector.replicate 4 (some kept),
    store := .valid (State.reset.imageOf false), resetLow := true, pending := [.resetNRelease] }
  have released : step s = .next (State.pinReleased { s with pending := [] }) := rfl
  obtain ⟨setup, records⟩ :=
    State.pinReleased_of_image (s := { s with pending := [] }) (image := State.reset.imageOf false) rfl rfl rfl
  have commissioned : s.commissionSound := by simp [State.commissionSound, s]
  have running : s.quietOutsideRun := fun outside => absurd rfl outside
  obtain ⟨-, quiet⟩ := keeps s _ commissioned running released
  have free := (quiet (by simp [setup])).2 0 (by decide)
  rw [State.record, records] at free
  exact absurd free (by simp [s, Vector.getD])

end Sys2Proof.Machine
end

section
/-! The pick reports: what PICK_START and PICK_DONE make of the head they name, and how they are refused where they name no
FROZEN head (R67, R68, R73). -/

namespace Sys2Proof.Machine

/-! ## The head a report names (R67) -/

section
variable {s : State} {r tour : Nat} {head : Tour} {behind : List Tour}

theorem State.pickHead_of_number (hw : (s.route r).waiting = head :: behind) (frozen : head.state = .frozen)
    (named : head.number = tour) : s.pickHead r tour = some head := by
  simp [State.pickHead, hw, frozen, named]

theorem State.pickHead_of_other (hw : (s.route r).waiting = head :: behind) (other : head.number ≠ tour) :
    s.pickHead r tour = none := by
  simp [State.pickHead, hw, other]

/-- A change of the head is a change of its route's record. -/
theorem State.modHead_of_cons (hw : (s.route r).waiting = head :: behind) (f : Tour → Tour) :
    s.modHead r f = s.modRoute r fun ro => { ro with waiting := f head :: behind } :=
  State.modRoute_congr (by rw [hw, List.modifyHead_cons])

/-- The check of a held head passes over one that is not held (R73). -/
theorem State.checkHeld_of_free (hw : (s.route r).waiting = head :: behind) (free : head.held = false) :
    s.checkHeld r = s := by
  unfold State.checkHeld
  rw [hw]
  exact if_neg (by simp [free])

/-! ## The reports (R68) -/

theorem State.takePickStart_of_head {p : PickState} (hw : (s.route r).waiting = head :: behind)
    (frozen : head.state = .frozen) (named : head.number = tour) (state : head.pickState = some p) :
    s.takePickStart r tour = s.modRoute r fun ro => { ro with
      waiting := { head with pickState := some (if p = .ready then .picking else p) } :: behind } := by
  rw [State.takePickStart, State.pickHead_of_number hw frozen named]
  dsimp only
  rw [state]
  by_cases ready : p = .ready
  · rw [if_pos (by rw [ready]), if_pos ready, State.modHead_of_cons hw]
  · rw [if_neg (by simp [ready]), if_neg ready, ← state]
    exact (State.modRoute_id (by rw [← hw])).symm

theorem State.takePickDone_of_head (hw : (s.route r).waiting = head :: behind) (frozen : head.state = .frozen)
    (free : head.held = false) (named : head.number = tour) :
    s.takePickDone r tour = s.modRoute r fun ro => { ro with
      waiting := { head with pickState := some .picked } :: behind } := by
  have hr := State.lt_of_waiting hw
  rw [State.takePickDone, State.pickHead_of_number hw frozen named]
  dsimp only
  by_cases picked : head.pickState = some .picked
  · rw [if_pos picked, ← picked]
    exact (State.modRoute_id (by rw [← hw])).symm
  · rw [if_neg picked, State.modHead_of_cons hw]
    refine State.checkHeld_of_free (head := { head with pickState := some .picked }) (behind := behind) ?_ free
    rw [State.route_modRoute, if_pos ⟨rfl, hr⟩]

end

/-- Settles O25: the report finds the head it names, or none. -/
theorem pickReportsMoveHead : Obligations.PickReportsMoveHead := by
  intro h r tour head behind p s hh hw frozen free state
  have ⟨⟨_, _, settled⟩, _, _, _, _, station⟩ := hh
  have taken (op : PickOp) (c : Instr) (hc : exec c s = .next (s.hearPick h r tour op)) {t : State}
      (out : s.takePickOp r tour op = t) (quiet : t.reported = []) : exec c s = .next t := by
    rw [hc, State.hear_pick tour op hh, out, State.settleLamps_settled quiet]
  refine ⟨fun named => ⟨?_, ?_⟩, fun other => ⟨?_, ?_⟩⟩
  · exact taken .start _ rfl (State.takePickStart_of_head hw frozen named state) settled
  · exact taken .done _ rfl (State.takePickDone_of_head hw frozen free named) settled
  · refine taken .start _ rfl ?_ ((State.emit_reported _ _ _ _).trans settled)
    rw [State.takePickOp, State.takePickStart, State.pickHead_of_other hw other]
    exact congrArg (s.emit clsPick · _) station
  · refine taken .done _ rfl ?_ ((State.emit_reported _ _ _ _).trans settled)
    rw [State.takePickOp, State.takePickDone, State.pickHead_of_other hw other]
    exact congrArg (s.emit clsPick · _) station

end Sys2Proof.Machine
end

section
/-! The alerts of an event that may raise several: each joins the frames that are to leave at most once, so that no more leave
than flags are newly set (R158, R168). -/

namespace Sys2Proof.Machine

/-- The frames added are ALERT telegrams, no more than the alerts of a list that are newly set. -/
def State.alertsAmong (s t : State) (l : List Alert) : Prop :=
  ∃ sent, s.Sends t sent ∧ (∀ f ∈ sent, f.cls = clsAlert) ∧ l.countP s.flagSet + sent.length ≤ l.countP t.flagSet

theorem State.alertsAmong.of_sends_nil {s t : State} (h : s.Sends t []) (l : List Alert) : s.alertsAmong t l :=
  ⟨[], h, by simp, List.countP_mono_left fun a _ => h.flags a⟩

theorem State.alertsAmong.of_link {s t : State} (flags : t.flags = s.flags) (forward : t.forwardQueue = s.forwardQueue)
    (emit : t.emitQueue = s.emitQueue) (out : t.ringOut = s.ringOut) (l : List Alert) : s.alertsAmong t l :=
  .of_sends_nil (.of_link flags forward emit out) l

theorem State.alertsAmong.trans {s t u : State} {l : List Alert} (h : s.alertsAmong t l) (h' : t.alertsAmong u l) :
    s.alertsAmong u l := by
  obtain ⟨a, ha, alertsA, newA⟩ := h
  obtain ⟨b, hb, alertsB, newB⟩ := h'
  refine ⟨a ++ b, ha.trans hb, fun f hf => ?_, ?_⟩
  · exact (List.mem_append.mp hf).elim (alertsA f) (alertsB f)
  · rw [List.length_append]
    omega

/-- As many frames as the list holds alerts, at most. -/
theorem State.alertsAmong.few {s t : State} {l : List Alert} (h : s.alertsAmong t l) :
    ∃ sent, s.Sends t sent ∧ (∀ f ∈ sent, f.cls = clsAlert) ∧ sent.length ≤ l.length := by
  obtain ⟨sent, sends, alerts, new⟩ := h
  have all : l.countP t.flagSet ≤ l.length := List.countP_le_length
  exact ⟨sent, sends, alerts, by omega⟩

/-- A test that holds of more members holds of at least one more where it newly holds. -/
theorem countP_lt_of_new {α : Type} {p q : α → Bool} {l : List α} {a : α} (more : ∀ x, p x = true → q x = true)
    (mem : a ∈ l) (was : p a = false) (is : q a = true) : l.countP p < l.countP q := by
  obtain ⟨front, back, rfl⟩ := List.append_of_mem mem
  have inFront : front.countP p ≤ front.countP q := List.countP_mono_left fun x _ => more x
  have inBack : back.countP p ≤ back.countP q := List.countP_mono_left fun x _ => more x
  simp only [List.countP_append, List.countP_cons, was, is, if_true, Bool.false_eq_true, if_false]
  omega

/-- One alert of the list is sent where it is newly set. -/
theorem State.alertsOnce.among {s t : State} {a : Alert} {l : List Alert} (h : s.alertsOnce t a) (mem : a ∈ l) :
    s.alertsAmong t l := by
  obtain ⟨sent, sends, alerts, few, off, on⟩ := h
  by_cases none : sent = []
  · exact .of_sends_nil (none ▸ sends) l
  · have new := countP_lt_of_new sends.flags mem (Bool.eq_false_iff.mpr fun stood => none (off stood)) (on none)
    exact ⟨sent, sends, alerts, by omega⟩

theorem State.raise_alertsAmong (s : State) {a : Alert} {l : List Alert} (mem : a ∈ l) : s.alertsAmong (s.raise a) l :=
  (s.raise_alertsOnce a).among mem

/-- Steps each of which raises alerts of a list, one after another. -/
theorem State.foldl_alertsAmong {α : Type} {f : State → α → State} {l : List Alert}
    (each : ∀ (x : State) a, x.alertsAmong (f x a) l) (as : List α) (s : State) : s.alertsAmong (as.foldl f s) l := by
  induction as generalizing s with
  | nil => exact .of_sends_nil (.refl s) l
  | cons a as ih => exact (each s a).trans (ih (f s a))

/-! ## What slots and placements raise -/

/-- A change of counts raises SLOT_SHORT at most (R7). -/
theorem State.countsChanged_alertsAmong (s : State) (i : Nat) {l : List Alert} (short : .slotShort ∈ l) :
    s.alertsAmong (s.countsChanged i) l := by
  have quiet (x : State) (f : Slot → Slot) : x.alertsAmong (x.modSlot i f) l :=
    .of_link (by rfl) (by rfl) (by rfl) (by rfl) l
  have noted (x : State) : x.alertsAmong (x.noteShort i) l := by
    unfold State.noteShort
    dsimp only
    split
    · exact .of_sends_nil (.refl x) l
    · split
      · split
        · exact .of_sends_nil (.refl x) l
        · exact (quiet x _).trans (State.raise_alertsAmong _ short)
      · exact quiet x _
  exact ((quiet s _).trans (noted _)).trans (.of_link (by rfl) (by rfl) (by rfl) (by rfl) l)

theorem State.credit_alertsAmong (s : State) (i : Nat) {l : List Alert} (short : .slotShort ∈ l) :
    s.alertsAmong (s.credit i) l :=
  State.alertsAmong.trans (.of_link (by rfl) (by rfl) (by rfl) (by rfl) l) (State.countsChanged_alertsAmong _ i short)

/-- A dropped order raises ORDER_DROPPED, and SLOT_SHORT at most (R18). -/
theorem State.drop_alertsAmong (s : State) (i : Nat) {l : List Alert} (short : .slotShort ∈ l)
    (dropped : .orderDropped ∈ l) : s.alertsAmong (s.drop i) l :=
  (State.alertsAmong.trans (.of_link (by rfl) (by rfl) (by rfl) (by rfl) l) (State.raise_alertsAmong _ dropped)).trans
    (State.countsChanged_alertsAmong _ i short)

theorem State.rollbackOrDrop_alertsAmong (s : State) (origin : Origin) (e : Entry) {l : List Alert}
    (short : .slotShort ∈ l) (dropped : .orderDropped ∈ l) : s.alertsAmong (s.rollbackOrDrop origin e) l := by
  unfold State.rollbackOrDrop
  split
  · rw [State.rollback_eq]
    exact .of_link (by rfl) (by rfl) (by rfl) (by rfl) l
  · exact s.drop_alertsAmong _ short dropped

/-- A presumption raises PRESUMED_DELIVERY, and SLOT_SHORT at most (R119, R122, R127). -/
theorem State.presume_alertsAmong (s : State) (r : Nat) (t : Tour) (pick : Entry → Bool) {l : List Alert}
    (short : .slotShort ∈ l) (presumed : .presumedDelivery ∈ l) : s.alertsAmong (s.presume r t pick) l := by
  have credited (x : State) (es : List Entry) : x.alertsAmong (es.foldl (fun x e => x.credit e.slot) x) l := by
    refine State.foldl_alertsAmong (fun y e => ?_) es x
    exact y.credit_alertsAmong e.slot short
  unfold State.presume
  dsimp only
  generalize hm : s.modRunning r _ = marked
  have quiet : s.alertsAmong marked l := by
    rw [← hm]
    exact .of_link (by rfl) (by rfl) (by rfl) (by rfl) l
  split
  · exact quiet.trans (credited _ _)
  · exact (quiet.trans (credited _ _)).trans (State.raise_alertsAmong _ presumed)

/-- A placed order raises LATE_ORDER at most (R85). -/
theorem State.place_alertsAmong (s : State) (o : Order) (k : Nat) {l : List Alert} (late : .lateOrder ∈ l) :
    s.alertsAmong (s.place o k) l := by
  have alerts (x : State) : x.alertsAmong ((x.raise .lateOrder).report o.slot) l :=
    (x.raise_alertsAmong late).trans (.of_link (by rfl) (by rfl) (by rfl) (by rfl) l)
  unfold State.place
  dsimp only
  split
  · exact .of_sends_nil (.refl s) l
  · split
    · exact State.alertsAmong.trans (.of_link (by rfl) (by rfl) (by rfl) (by rfl) l) (alerts _)
    · exact .of_link (by rfl) (by rfl) (by rfl) (by rfl) l

theorem State.offerOrders_alertsAmong (rs : List Nat) (os : List Order) (s : State) {l : List Alert} (late : .lateOrder ∈ l) :
    s.alertsAmong (State.offerOrders rs os s) l := by
  induction os generalizing s with
  | nil => exact .of_sends_nil (.refl s) l
  | cons o os ih =>
    unfold State.offerOrders
    split
    · split
      · exact State.alertsAmong.trans (.of_link (by rfl) (by rfl) (by rfl) (by rfl) l)
          ((State.place_alertsAmong { s with backlog := s.backlog.erase o } o _ late).trans (ih _))
      · exact ih s
    · exact ih s

end Sys2Proof.Machine
end

section
/-! The board behind a departed head: no drain reaches a tour past the freeze, the tours behind keep their places as new ones are
appended, and the new head takes its cutoff where its count is due (R46, R62, R63, R74, R84). -/

namespace Sys2Proof.Machine

/-! ## Drains and frozen tours (R84 to R86) -/

/-- The policy chooses among the candidates of the slot's route (R85). -/
theorem State.chooseTour_takesOrders {s : State} {i due k : Nat} (h : s.chooseTour i due = some k) :
    ∃ t, (s.route (s.slot i).config.route).waiting[k]? = some t ∧ s.takesOrders (s.slot i).config.route t = true := by
  have chosen {o : Option (Tour × Nat)} (ho : o.map Prod.snd = some k)
      (mem : ∀ c ∈ o, c ∈ s.candidates (s.slot i).config.route) :
      ∃ t, (s.route (s.slot i).config.route).waiting[k]? = some t ∧
        s.takesOrders (s.slot i).config.route t = true := by
    obtain ⟨⟨t, _⟩, hc, rfl⟩ := Option.map_eq_some_iff.mp ho
    exact ⟨t, (s.mem_candidates _ _ _).mp (mem _ hc)⟩
  have first (ho : (s.candidates (s.slot i).config.route).head?.map Prod.snd = some k) :=
    chosen ho fun c hc => List.mem_of_head? hc
  unfold State.chooseTour at h
  dsimp only at h
  split at h
  · exact first h
  · split at h
    · rename_i c last
      exact chosen (o := some c) h fun c' hc' => by
        obtain rfl := Option.some.inj hc'
        exact (List.mem_filter.mp (List.mem_of_getLast? last)).1
    · exact first h

/-- Placing an order on one waiting tour leaves the others of its route, and every tour of another. -/
theorem State.place_waiting_other (s : State) (o : Order) {k j r : Nat}
    (other : (s.slot o.slot).config.route = r → j ≠ k) :
    ((s.place o k).route r).waiting[j]? = (s.route r).waiting[j]? := by
  have filled (f : Tour → Tour) : ((s.modRoute (s.slot o.slot).config.route fun ro =>
      { ro with waiting := ro.waiting.modify k f }).route r).waiting[j]? = (s.route r).waiting[j]? := by
    rw [State.route_modRoute]
    split
    · rename_i same
      rw [← same.1]
      simp [Ne.symm (other same.1.symm)]
    · rfl
  unfold State.place
  dsimp only
  split
  · rfl
  · split
    · rw [State.route_report, State.route_raise]
      exact filled _
    · exact filled _

/-- A drain leaves every waiting tour that is not PLANNED in its place (R84, R86). -/
theorem State.offerOrders_waiting (rs : List Nat) (os : List Order) {s : State} {r j : Nat} {t : Tour}
    (ht : (s.route r).waiting[j]? = some t) (past : t.state ≠ .planned) :
    ((State.offerOrders rs os s).route r).waiting[j]? = some t := by
  induction os generalizing s with
  | nil => exact ht
  | cons o os ih =>
    unfold State.offerOrders
    split
    · split
      · rename_i k chosen
        refine ih ((State.place_waiting_other { s with backlog := s.backlog.erase o } o fun same => ?_).trans ht)
        rintro rfl
        obtain ⟨x, hx, takes⟩ := State.chooseTour_takesOrders chosen
        rw [show (s.slot o.slot).config.route = r from same, ht] at hx
        obtain rfl := Option.some.inj hx
        simp [State.takesOrders, past] at takes
      · exact ih ht
    · exact ih ht

/-- A drain over a route with a frozen head leaves the head, and of the tours behind it their entries alone change. -/
theorem State.drain_behind_frozen {s : State} {r : Nat} {head : Tour} {behind : List Tour} (rs : List Nat)
    (hw : (s.route r).waiting = head :: behind) (frozen : head.state = .frozen) :
    ∃ rest, ((s.drain rs).route r).waiting = head :: rest ∧ rest.map Tour.bare = behind.map Tour.bare := by
  have first : ((s.drain rs).route r).waiting[0]? = some head :=
    State.offerOrders_waiting rs s.backlog (by simp [hw]) (by simp [frozen])
  have tours := (s.drain_fillsTours rs).tours r
  cases hd : ((s.drain rs).route r).waiting with
  | nil => simp [hd] at first
  | cons x rest =>
    rw [hd, List.getElem?_cons_zero] at first
    rw [hd, hw, List.map_cons, List.map_cons] at tours
    exact ⟨rest, by rw [Option.some.inj first], (List.cons.inj tours).2⟩

/-! ## The cutoff of a PLANNED head (R46, R64) -/

theorem Tour.passesCutoff_of_planned {t : Tour} (planned : t.state = .planned) (free : t.held = false) (ro : Route)
    (departure : Nat) :
    (t.passesCutoff ro departure).number = t.number ∧
    (t.passesCutoff ro departure).plannedDeparture = departure ∧ (t.passesCutoff ro departure).state = .frozen := by
  rw [Tour.passesCutoff, if_neg (by simp [free]), if_pos planned, Tour.atCutoff_eq]
  exact ⟨rfl, rfl, rfl⟩

theorem State.KeepsRecord.cutoffTime {s t : State} {r : Nat} (h : s.KeepsRecord t r) (clock : s.sameClock t) :
    t.cutoffTime r = s.cutoffTime r := by
  have first (x : State) : x.cutoffTime r = x.appendedAt r 0 := by simp [State.cutoffTime, State.appendedAt]
  rw [first, first, h.appendedAt clock]

/-! ## What follows a departure (R63) -/

/-- Tours are appended behind those that wait (R62). -/
theorem State.appendTours_waiting (s : State) {r : Nat} (hr : r < 8) :
    ∃ more, ((s.appendTours r).route r).waiting = (s.route r).waiting ++ more := by
  have appended (n : Nat) (x : State) : ∃ more, ((State.appendUpTo r n x).route r).waiting = (x.route r).waiting ++ more := by
    induction n generalizing x with
    | zero => exact ⟨[], (List.append_nil _).symm⟩
    | succ n ih =>
      unfold State.appendUpTo
      split
      · obtain ⟨more, rest⟩ := ih (x.appendTour r)
        rw [rest, State.appendTour, State.route_modRoute, if_pos ⟨rfl, hr⟩]
        exact ⟨_, List.append_assoc _ _ _⟩
      · exact ⟨[], (List.append_nil _).symm⟩
  unfold State.appendTours
  split
  · exact appended _ s
  · exact ⟨[], (List.append_nil _).symm⟩

/-- What is read of the first tours of a list whose head has changed. -/
theorem map_take_modifyHead {α : Type} {g : Tour → α} {f : Tour → Tour} {c : α → α} (n : Nat) (l : List Tour)
    (h : ∀ t ∈ l.take n, g (f t) = c (g t)) : ((l.modifyHead f).take n).map g = ((l.take n).map g).modifyHead c := by
  cases l with
  | nil => simp
  | cons t l =>
    cases n with
    | zero => simp
    | succ n => simp [h t (by simp)]

/-- Tours are PLANNED and not held where tours of the same states and marks are. -/
theorem planned_of_map {l l' : List Tour} (same : l.map (fun t => (t.state, t.held)) = l'.map fun t => (t.state, t.held))
    (plain : ∀ t ∈ l', t.state = .planned ∧ t.held = false) : ∀ t ∈ l, t.state = .planned ∧ t.held = false := by
  intro t ht
  have mem := List.mem_map_of_mem (f := fun t => (t.state, t.held)) ht
  rw [same] at mem
  obtain ⟨u, hu, equal⟩ := List.mem_map.mp mem
  obtain ⟨state, hold⟩ := Prod.mk.inj equal
  exact ⟨state ▸ (plain u hu).1, hold ▸ (plain u hu).2⟩

/-- The tours that wait as a head departs, PLANNED and not held, as what follows leaves them: but for their entries they stay,
and the first takes its cutoff where the count stands at or below cutoff_lead. `g` reads a tour but its entries, and `c` is what
the cutoff makes of it. -/
theorem State.afterHead_waiting {α : Type} {s : State} {r : Nat} (hr : r < 8)
    (plain : ∀ t ∈ (s.route r).waiting, t.state = .planned ∧ t.held = false) {g : Tour → α} {c : α → α}
    (bare : ∀ t, g t.bare = g t)
    (cut : ∀ ro t, t.state = .planned → t.held = false → g (t.passesCutoff ro (s.cutoffTime r)) = c (g t)) :
    (((s.afterHead r).route r).waiting.take (s.route r).waiting.length).map g
      = if (s.route r).count ≤ (s.route r).cfg.cutoffLead then ((s.route r).waiting.map g).modifyHead c
        else (s.route r).waiting.map g := by
  obtain ⟨more, appended⟩ := s.appendTours_waiting hr
  have tours := (State.drain_fillsTours (s.appendTours r) [r]).tours r
  rw [appended] at tours
  have turns := (s.appendTours_turnsBoard r).trans (State.drain_turnsBoard (s.appendTours r) r)
  have clock := (s.appendTours_sameClock r).trans (State.drain_sameClock (s.appendTours r) [r])
  have count := turns.record.count
  have cfg := turns.record.cfg
  have time := turns.record.cutoffTime clock
  unfold State.afterHead
  generalize (s.appendTours r).drain [r] = x at tours count cfg time
  have reads {β : Type} (p : Tour → β) (hp : ∀ t, p t.bare = p t) :
      ((x.route r).waiting.take (s.route r).waiting.length).map p = (s.route r).waiting.map p := by
    rw [List.map_take, map_of_map_bare p hp tours, ← List.map_take, List.take_left]
  have first := planned_of_map (reads (fun t => (t.state, t.held)) fun _ => rfl) plain
  rw [State.cutoffIfDue, count, cfg]
  split
  · rw [State.route_cutoff, State.route_modHead, if_pos ⟨rfl, hr⟩, time]
    refine (map_take_modifyHead _ _ fun t ht => ?_).trans (congrArg (List.modifyHead c) (reads g bare))
    exact cut _ t (first t ht).1 (first t ht).2
  · exact reads g bare

end Sys2Proof.Machine
end

section
/-! The board that a held head leaves: the tours behind it re-timed, and the new head's cutoff (R63, R71, R74). -/

namespace Sys2Proof.Machine

/-! ## Re-timing behind a held head (R74) -/

/-- The planned departure a late departure gives the tour at a position behind it: whole periods from now, or later where it was
planned later. -/
def State.behindHeld (s : State) (r k : Nat) (t : Tour) : Nat :=
  max t.plannedDeparture (satAdd s.pt ((k + 1) * (s.route r).cfg.period * s.unit r))

/-- A held head's departure re-times the tours behind it before the board is filled again (R71, R74). -/
theorem State.depart_of_held {s : State} {r : Nat} {h : Tour} {rest : List Tour} (hw : (s.route r).waiting = h :: rest)
    (held : h.held = true) : s.depart r = ((s.headGone r h rest).retimeTours r (s.behindHeld r)).afterHead r := by
  unfold State.depart
  rw [hw]
  exact congrArg (State.afterHead · r) (if_pos held)

/-- Re-timing keeps what is read of the tours but their planned departures and entries. -/
theorem retimed_map {α : Type} {p : Tour → α} (keeps : ∀ t ro d, p (Tour.atCutoff t ro d) = p t) (ro : Route)
    (f : Nat → Tour → Nat) : (retimed ro f).map p = ro.waiting.map p := by
  calc (retimed ro f).map p = (ro.waiting.zipIdx.map Prod.fst).map p := by
        simp only [retimed, List.map_map]
        exact List.map_congr_left fun c _ => keeps _ _ _
    _ = ro.waiting.map p := by simp

/-- What is read of tours and their positions agrees where what is read of the tours does. -/
theorem map_zipIdx_congr {α β : Type} {p : Tour → α} (F : Nat → α → β) {l l' : List Tour} (h : l.map p = l'.map p) :
    (l.zipIdx.map fun c => F c.2 (p c.1)) = l'.zipIdx.map fun c => F c.2 (p c.1) := by
  have through (x : List Tour) : (x.zipIdx.map fun c => F c.2 (p c.1)) = (x.map p).zipIdx.map fun c => F c.2 c.1 := by
    simp [List.zipIdx_map, Function.comp_def]
  rw [through, h, ← through]

/-- The board once a held head has gone and the tours behind it, PLANNED and not held, are re-timed, as what follows leaves it. -/
theorem State.depart_waiting {s : State} {r : Nat} {h : Tour} {rest : List Tour} (hw : (s.route r).waiting = h :: rest)
    (held : h.held = true) (plain : ∀ t ∈ rest, t.state = .planned ∧ t.held = false) :
    let first := (((s.depart r).route r).waiting).take rest.length
    let times := rest.zipIdx.map fun c => s.behindHeld r c.2 c.1
    let due := (s.route r).count ≤ (s.route r).cfg.cutoffLead
    first.map Tour.number = rest.map Tour.number ∧
    first.map Tour.plannedDeparture = (if due then times.modifyHead fun _ => s.cutoffTime r else times) ∧
    first.map Tour.state = (if due then (rest.map Tour.state).modifyHead fun _ => .frozen else rest.map Tour.state) := by
  have hr := State.lt_of_waiting hw
  intro first times due
  have gone := State.route_headGone (s := s) hr h rest r
  rw [if_pos rfl] at gone
  have route := State.route_retimeTours (s.headGone r h rest) r r (s.behindHeld r)
  rw [if_pos ⟨rfl, hr⟩] at route
  have takt : ((s.headGone r h rest).retimeTours r (s.behindHeld r)).takt = s.takt := by
    rw [State.retimeTours_eq, State.headGone, State.startTour_eq, State.headLeft, State.noteMarks_eq]; rfl
  have pt : ((s.headGone r h rest).retimeTours r (s.behindHeld r)).pt = s.pt := by
    rw [State.retimeTours_eq, State.headGone, State.startTour_eq, State.headLeft, State.noteMarks_eq]; rfl
  have departs := State.depart_of_held hw held
  generalize (s.headGone r h rest).retimeTours r (s.behindHeld r) = x at route takt pt departs
  have count : (x.route r).count = (s.route r).count := by rw [route, gone]
  have cfg : (x.route r).cfg = (s.route r).cfg := by rw [route, gone]; rfl
  have time : x.cutoffTime r = s.cutoffTime r := by
    unfold State.cutoffTime State.unit
    rw [count, cfg, pt, takt]
  have waiting : (x.route r).waiting = retimed ((s.headGone r h rest).route r) (s.behindHeld r) := by rw [route]
  have keeps {α : Type} {p : Tour → α} (same : ∀ t ro d, p (Tour.atCutoff t ro d) = p t) :
      (x.route r).waiting.map p = rest.map p := by rw [waiting, retimed_map same, gone]
  have states := keeps (p := Tour.state) fun t ro d => by rw [Tour.atCutoff_eq]
  have plainX := planned_of_map (keeps (p := fun t => (t.state, t.held)) fun t ro d => by rw [Tour.atCutoff_eq]) plain
  have length : (x.route r).waiting.length = rest.length := by simpa using congrArg List.length states
  have follows {α : Type} (g : Tour → α) (c : α → α) (bare : ∀ t, g t.bare = g t)
      (cut : ∀ ro t, t.state = .planned → t.held = false → g (t.passesCutoff ro (x.cutoffTime r)) = c (g t)) :=
    State.afterHead_waiting hr plainX bare cut
  rw [length, count, cfg, ← departs] at follows
  refine ⟨?_, ?_, ?_⟩
  · have numbers := follows Tour.number id (fun _ => rfl) fun ro t hp hh => (Tour.passesCutoff_of_planned hp hh ro _).1
    rw [keeps fun t ro d => by rw [Tour.atCutoff_eq]] at numbers
    refine numbers.trans ?_
    split
    · cases rest <;> rfl
    · rfl
  · have times := follows Tour.plannedDeparture (fun _ => x.cutoffTime r) (fun _ => rfl) fun ro t hp hh =>
      (Tour.passesCutoff_of_planned hp hh ro _).2.1
    rw [waiting, retimed_plannedDeparture, gone, time] at times
    exact times
  · have frozen := follows Tour.state (fun _ => .frozen) (fun _ => rfl) fun ro t hp hh =>
      (Tour.passesCutoff_of_planned hp hh ro _).2.2
    rw [states] at frozen
    exact frozen

end Sys2Proof.Machine
end

section
/-! The late departure of a held head, whichever event completes its conditions: the board it finds readied, and what the
departure leaves and sends (R63, R71, R73, R74, R117, R118). -/

namespace Sys2Proof.Machine

/-! ## The readied board -/

/-- The alerts that may come before the ROUTE_ORDER of a late departure (R158). -/
def lateAlerts : List Alert := [.slotShort, .presumedDelivery, .orderDropped, .lateOrder]

/-- From `s`, an event has readied route r in `b`: the head is PICKED, its train READY and no tour runs, the count stands at
`count`, of the tours behind the head entries alone have changed, and LU has sent nothing but alerts. -/
structure State.ReadiedFrom (s b : State) (r : Nat) (head : Tour) (behind rest : List Tour) (train capacity count : Nat) :
    Prop where
  route : b.route r = { s.route r with
    count := count, waiting := { head with pickState := some .picked } :: rest, running := none }
  tours : rest.map Tour.bare = behind.map Tour.bare
  binding : (b.train r).binding = .bound train capacity .ready
  others : ∀ q, q ≠ r → b.route q = s.route q ∧ b.train q = s.train q
  clock : b.pt = s.pt ∧ b.takt = s.takt
  ring : b.lineConfig = s.lineConfig ∧ b.station = s.station
  alerts : s.alertsAmong b lateAlerts

namespace State.ReadiedFrom

variable {s b : State} {r train capacity count : Nat} {head : Tour} {behind rest : List Tour}

theorem waiting (ready : s.ReadiedFrom b r head behind rest train capacity count) :
    (b.route r).waiting = { head with pickState := some .picked } :: rest := by rw [ready.route]

theorem cfg (ready : s.ReadiedFrom b r head behind rest train capacity count) : (b.route r).cfg = (s.route r).cfg := by
  rw [ready.route]; rfl

theorem stops (ready : s.ReadiedFrom b r head behind rest train capacity count) :
    (b.route r).stops = (s.route r).stops := by rw [ready.route]

theorem unit (ready : s.ReadiedFrom b r head behind rest train capacity count) : b.unit r = s.unit r := by
  rw [State.unit, State.unit, ready.cfg, ready.clock.2]

/-- All conditions stand, so the head departs (R70). -/
theorem departureReady (ready : s.ReadiedFrom b r head behind rest train capacity count) (frozen : head.state = .frozen) :
    b.departureReady r { head with pickState := some .picked } = true := by
  rw [State.departureReady, ready.binding, ready.route]
  simp [frozen, Binding.isReady]

theorem checkHeld (ready : s.ReadiedFrom b r head behind rest train capacity count) (frozen : head.state = .frozen)
    (held : head.held = true) : b.checkHeld r = b.depart r := by
  unfold State.checkHeld
  rw [ready.waiting]
  exact if_pos (by rw [ready.departureReady frozen]; simp [held])

theorem boardDue (ready : s.ReadiedFrom b r head behind rest train capacity count) (frozen : head.state = .frozen) :
    b.boardDue r = b.depart r := by
  unfold State.boardDue
  rw [ready.waiting]
  exact if_pos (ready.departureReady frozen)

/-- The ROUTE_ORDER leaves after alerts alone, and what follows it is of other classes (R118, R158). -/
theorem sendsRouteOrder (ready : s.ReadiedFrom b r head behind rest train capacity count) :
    s.sendsRouteOrder (b.depart r).settleLamps 4 r train (b.departing r { head with pickState := some .picked }) := by
  have hr := State.lt_of_waiting ready.waiting
  obtain ⟨-, -, -, sends⟩ := State.depart_after ready.waiting
  obtain ⟨line, station, trains, -, cfg, stops⟩ :=
    State.headLeft_frame (s := b) hr { head with pickState := some .picked } rest
  have left : b.alertsAmong (b.headLeft r { head with pickState := some .picked } rest) lateAlerts :=
    (State.alertsOnce.trans (.of_sends_nil (.of_link (by rfl) (by rfl) (by rfl) (by rfl)) _)
      (State.noteMarks_alertsOnce _ _ _)).among (by decide)
  obtain ⟨sent, sends0, alerts, few⟩ := (ready.alerts.trans left).few
  refine State.sendsSeries_of_before sends0 few (fun f hf => by rw [alerts f hf]; decide) fun room => ?_
  have told := State.startTour_sends (Nat.lt_of_succ_le room) r (b.departing r { head with pickState := some .picked })
  have asked : ((b.headLeft r { head with pickState := some .picked } rest).train r).binding.trainId.getD 0 = train := by
    rw [State.train, trains, ← State.train, ready.binding]
    rfl
  rw [asked, Tour.stopList_congr _ (cfg.trans ready.cfg) (stops.trans ready.stops), line, station, ready.ring.1,
    ready.ring.2] at told
  exact ⟨_, told, sends.trans (State.settleLamps_sendsNo _ (by decide))⟩

/-- The late departure of the head, whichever event readied its route. -/
theorem departedLate (ready : s.ReadiedFrom b r head behind rest train capacity count) (held : head.held = true)
    (plain : ∀ x ∈ behind, x.state = .planned ∧ x.held = false) :
    s.departedLate (b.depart r).settleLamps r head behind train capacity count := by
  have hw := ready.waiting
  have hr := State.lt_of_waiting hw
  obtain ⟨turns, trains, -, -⟩ := State.depart_after hw
  have routeG := State.route_headGone (s := b) hr { head with pickState := some .picked } rest
  have trainG := State.train_headGone (s := b) hr { head with pickState := some .picked } rest
  have order := ready.sendsRouteOrder
  have departing := b.departing_eq r { head with pickState := some .picked }
  generalize b.departing r { head with pickState := some .picked } = gone at routeG trainG order departing
  rw [ready.cfg, ready.clock.1, Tour.arrival_congr gone ready.stops] at departing
  have read {α : Type} (p : Tour → α) (bare : ∀ t, p t.bare = p t) : rest.map p = behind.map p :=
    map_of_map_bare p bare ready.tours
  have length : rest.length = behind.length := by simpa using congrArg List.length ready.tours
  have plainRest := planned_of_map (read (fun t => (t.state, t.held)) fun _ => rfl) plain
  obtain ⟨numbers, times, states⟩ := State.depart_waiting hw held plainRest
  have period (k : Nat) (t : Tour) : b.behindHeld r k t
      = max t.plannedDeparture (min (s.pt + s.unitTicks r ((k + 1) * (s.route r).cfg.period)) 4294967295) := by
    rw [State.behindHeld, ready.cfg, ready.unit, ready.clock.1, State.unitTicks_eq]
    rfl
  have cutoff : b.cutoffTime r = min (s.pt + s.unitTicks r count) 4294967295 := by
    rw [State.cutoffTime, ready.unit, ready.clock.1, ready.route, State.unitTicks_eq]
    rfl
  have retimes := map_zipIdx_congr (p := Tour.plannedDeparture) (fun k d =>
    max d (min (s.pt + s.unitTicks r ((k + 1) * (s.route r).cfg.period)) 4294967295)) (read _ fun _ => rfl)
  have count' : (b.route r).count = count := by rw [ready.route]
  simp only [period, cutoff, ready.cfg, count', length, retimes] at numbers times states
  have train' (q : Nat) : (b.depart r).settleLamps.train q
      = (b.headGone r { head with pickState := some .picked } rest).train q := by
    rw [State.settleLamps_train, State.train, trains]
    rfl
  refine ⟨gone, ?_, departing, ?_, ?_, ?_, ?_, ?_, ?_, ?_, order, fun q hq => ⟨?_, ?_⟩⟩
  · rw [State.settleLamps_route, turns.record.running, routeG, if_pos rfl]
  · rw [State.settleLamps_route, turns.record.count, routeG, if_pos rfl, ready.route]
  · rw [State.settleLamps_route, numbers]
    exact read _ fun _ => rfl
  · rw [State.settleLamps_route]
    exact times
  · rw [State.settleLamps_route, states, read Tour.state fun _ => rfl]
  · rw [train', trainG, if_pos rfl, ready.binding]
    rfl
  · rw [train', trainG, if_pos rfl]
  · rw [train', trainG, if_pos rfl]
  · rw [State.settleLamps_route, turns.others q hq, routeG, if_neg hq, (ready.others q hq).1]
  · rw [train', trainG, if_neg hq, (ready.others q hq).2]

end State.ReadiedFrom

end Sys2Proof.Machine
end

section
/-! A sign of life and the end of a tour: what a telegram of the bound train and its RETURN leave of the part (R126, R127). -/

namespace Sys2Proof.Machine

/-! ## Signs of life (R126) -/

/-- What TU holds for route r changes, its binding excepted, and nothing else does. -/
structure State.SetsTimers (s t : State) (r : Nat) : Prop where
  frame : t = { s with trains := t.trains }
  binding : (t.train r).binding = (s.train r).binding
  others : ∀ q, q ≠ r → t.train q = s.train q

theorem State.SetsTimers.refl (s : State) (r : Nat) : s.SetsTimers s r := ⟨rfl, rfl, fun _ _ => rfl⟩

theorem State.SetsTimers.trans {s t u : State} {r : Nat} (h : s.SetsTimers t r) (h' : t.SetsTimers u r) :
    s.SetsTimers u r where
  frame := by rw [h'.frame, h.frame]
  binding := h'.binding.trans h.binding
  others q hq := (h'.others q hq).trans (h.others q hq)

theorem State.SetsTimers.route {s t : State} {r : Nat} (h : s.SetsTimers t r) (q : Nat) : t.route q = s.route q := by
  rw [h.frame]; rfl

theorem State.modTrain_setsTimers (s : State) (r : Nat) {f : TrainUnit → TrainUnit}
    (hf : ∀ u, (f u).binding = u.binding) : s.SetsTimers (s.modTrain r f) r where
  frame := rfl
  binding := by
    rw [State.train_modTrain]
    split
    · exact hf _
    · rfl
  others q hq := by rw [State.train_modTrain, if_neg fun same => hq same.1]

/-- A train bound to one route at most stays so as that route's timers are set. -/
theorem State.SetsTimers.boundOnlyTo {s t : State} {train r : Nat} (h : s.SetsTimers t r) (only : s.boundOnlyTo train r) :
    t.boundOnlyTo train r := by
  intro q hq bound
  by_cases same : q = r
  · exact same
  · exact only q hq (by rw [← h.others q same]; exact bound)

/-- A telegram of a train bound to one route at most sets back that route's silence timer at most. -/
theorem State.heard_setsTimers {s : State} {train r : Nat} (only : s.boundOnlyTo train r) :
    s.SetsTimers (s.heard train) r := by
  unfold State.heard
  refine List.foldlRecOn (motive := fun x => s.SetsTimers x r) _ _ (.refl s r) fun x sets q mem => ?_
  split
  · split
    · rename_i own
      obtain rfl := sets.boundOnlyTo only q (List.mem_range.mp mem) own.1
      exact sets.trans (x.modTrain_setsTimers q fun _ => rfl)
    · exact sets
  · exact sets

/-! ## The end of a tour (R127) -/

/-- A presumption changes its route's RUNNING tour and no other route. -/
theorem State.route_presume (s : State) (r q : Nat) (t : Tour) (pick : Entry → Bool) :
    (s.presume r t pick).route q = (s.modRunning r fun x =>
      { x with entries := x.entries.map fun e => if pick e then { e with state := .presumed } else e }).route q := by
  unfold State.presume
  dsimp only
  split
  · rw [State.credits_eq]; rfl
  · rw [State.route_raise, State.credits_eq]; rfl

/-- A rollback of an entry, or its drop, changes the backlog, the slot table, the reported slots and what alerts change (R89). -/
theorem State.rollbackOrDrop_eq (s : State) (origin : Origin) (e : Entry) :
    s.rollbackOrDrop origin e = { s with
      backlog := (s.rollbackOrDrop origin e).backlog, slots := (s.rollbackOrDrop origin e).slots,
      reported := (s.rollbackOrDrop origin e).reported, forwardQueue := (s.rollbackOrDrop origin e).forwardQueue,
      emitQueue := (s.rollbackOrDrop origin e).emitQueue, ringOut := (s.rollbackOrDrop origin e).ringOut,
      burst := (s.rollbackOrDrop origin e).burst, flags := (s.rollbackOrDrop origin e).flags } := by
  unfold State.rollbackOrDrop
  split
  · rw [State.rollback_eq]
  · rw [State.drop_eq]

theorem State.rollbackOrDrops_eq (origin : Origin) (es : List Entry) (s : State) :
    es.foldl (fun x e => x.rollbackOrDrop origin e) s = { s with
      backlog := (es.foldl (fun x e => x.rollbackOrDrop origin e) s).backlog,
      slots := (es.foldl (fun x e => x.rollbackOrDrop origin e) s).slots,
      reported := (es.foldl (fun x e => x.rollbackOrDrop origin e) s).reported,
      forwardQueue := (es.foldl (fun x e => x.rollbackOrDrop origin e) s).forwardQueue,
      emitQueue := (es.foldl (fun x e => x.rollbackOrDrop origin e) s).emitQueue,
      ringOut := (es.foldl (fun x e => x.rollbackOrDrop origin e) s).ringOut,
      burst := (es.foldl (fun x e => x.rollbackOrDrop origin e) s).burst,
      flags := (es.foldl (fun x e => x.rollbackOrDrop origin e) s).flags } := by
  induction es generalizing s with
  | nil => rfl
  | cons e es ih =>
    simp only [List.foldl_cons]
    rw [ih, State.rollbackOrDrop_eq]

/-- The orders of a tour that ends are settled: presumed where they wait at a stop, returned where they did not arrive
(R127 steps 1 to 3). -/
def State.ordersEnded (s : State) (r : Nat) (t : Tour) : State :=
  (t.entries.filter fun e => e.state == .loaded || e.state == .skipped).foldl (fun x e => x.rollbackOrDrop .returned e)
    ((s.stopTimers r).presume r t fun e => e.state == .atStop)

theorem State.endTour_eq (s : State) (r : Nat) (t : Tour) :
    s.endTour r t = ((s.ordersEnded r t).modRoute r fun ro => { ro with running := none }).modTrain r
      fun u => { u with binding := u.binding.withState .ready } := rfl

theorem State.ordersEnded_eq (s : State) (r : Nat) (t : Tour) :
    s.ordersEnded r t = { s with
      routes := (s.ordersEnded r t).routes, trains := (s.stopTimers r).trains, backlog := (s.ordersEnded r t).backlog,
      slots := (s.ordersEnded r t).slots, reported := (s.ordersEnded r t).reported,
      forwardQueue := (s.ordersEnded r t).forwardQueue, emitQueue := (s.ordersEnded r t).emitQueue,
      ringOut := (s.ordersEnded r t).ringOut, burst := (s.ordersEnded r t).burst, flags := (s.ordersEnded r t).flags } := by
  unfold State.ordersEnded
  rw [State.rollbackOrDrops_eq, State.presume_eq]
  rfl

/-- A tour that ends leaves its route's record but for the RUNNING tour, and every other route. -/
theorem State.route_endTour {s : State} {r : Nat} (hr : r < 8) (t : Tour) (q : Nat) :
    (s.endTour r t).route q = if q = r then { s.route r with running := none } else s.route q := by
  have settled (p : Nat) : (s.ordersEnded r t).route p = (s.modRunning r fun x =>
      { x with entries := x.entries.map fun e => if e.state == .atStop then { e with state := .presumed } else e }).route p := by
    unfold State.ordersEnded
    rw [State.rollbackOrDrops_eq]
    exact State.route_presume _ r p t _
  rw [State.endTour_eq, State.route_modTrain, State.route_modRoute, settled, settled, State.modRunning,
    State.route_modRoute, State.route_modRoute]
  by_cases hq : q = r <;> simp [hq, hr]

/-- The train of a tour that ends is READY, its timers stopped; no other train changes (R127). -/
theorem State.train_endTour {s : State} {r : Nat} (hr : r < 8) (t : Tour) (q : Nat) :
    (s.endTour r t).train q = if q = r then
      { s.train r with binding := (s.train r).binding.withState .ready, confirmTimer := none, silenceTimer := none }
    else s.train q := by
  have stopped (p : Nat) : (s.ordersEnded r t).train p = (s.stopTimers r).train p := by
    rw [State.ordersEnded_eq]; rfl
  rw [State.endTour_eq, State.train_modTrain, State.train_modRoute, State.train_modRoute, stopped, stopped,
    State.stopTimers, State.train_modTrain, State.train_modTrain]
  by_cases hq : q = r <;> simp [hq, hr]

/-- The end of a tour raises the alerts of its presumptions, credits and drops at most. -/
theorem State.endTour_alertsAmong (s : State) (r : Nat) (t : Tour) : s.alertsAmong (s.endTour r t) lateAlerts := by
  have stops : s.alertsAmong (s.stopTimers r) lateAlerts := .of_link (by rfl) (by rfl) (by rfl) (by rfl) _
  have presumes := State.presume_alertsAmong (s.stopTimers r) r t (fun e => e.state == .atStop) (l := lateAlerts)
    (by decide) (by decide)
  have returns (es : List Entry) (x : State) :
      x.alertsAmong (es.foldl (fun x e => x.rollbackOrDrop .returned e) x) lateAlerts := by
    refine State.foldl_alertsAmong (fun y e => ?_) es x
    exact y.rollbackOrDrop_alertsAmong .returned e (by decide) (by decide)
  rw [State.endTour_eq]
  exact ((stops.trans presumes).trans (returns _ _)).trans (.of_link (by rfl) (by rfl) (by rfl) (by rfl) _)

end Sys2Proof.Machine
end

section
/-! The four events that complete the conditions of a held head (R68, R70, R114, R127). -/

namespace Sys2Proof.Machine

section
variable {s : State} {r train capacity : Nat} {head : Tour} {behind : List Tour}

/-- A head that is PICKED already. -/
theorem Tour.picked_eq (picked : head.pickState = some .picked) : { head with pickState := some .picked } = head := by
  rw [← picked]

/-- PICK_DONE readies the board where the train is READY and no tour runs (R68). -/
theorem State.pickDone_readied (hw : (s.route r).waiting = head :: behind)
    (bound : (s.train r).binding = .bound train capacity .ready) (idle : (s.route r).running = none) :
    s.ReadiedFrom (s.modHead r fun x => { x with pickState := some .picked }) r head behind behind train capacity
      (s.route r).count where
  route := by
    rw [State.route_modHead, if_pos ⟨rfl, State.lt_of_waiting hw⟩, hw, List.modifyHead_cons, ← idle]
  tours := rfl
  binding := bound
  others q hq := ⟨by rw [State.route_modHead, if_neg fun same => hq same.1], rfl⟩
  clock := ⟨rfl, rfl⟩
  ring := ⟨rfl, rfl⟩
  alerts := .of_link (by rfl) (by rfl) (by rfl) (by rfl) _

/-- A departure due finds a held head past its cutoff: the count is reloaded, and that is all (R46, R47). -/
theorem State.atBoard_of_held (hw : (s.route r).waiting = head :: behind) (held : head.held = true) :
    s.atBoard r = s.modRoute r Route.reloaded := by
  by_cases first : s.cutoffFirst r
  · have hw0 : ((s.atCount r (s.route r).cfg.cutoffLead).route r).waiting = head :: behind := by
      rw [State.route_atCount, if_pos ⟨rfl, State.lt_of_waiting hw⟩]
      exact hw
    rw [State.atBoard_of_cutoffFirst first, State.cutoff_of_held hw0 held, State.atCount, State.modRoute_modRoute]
    rfl
  · exact State.atBoard_of_not_cutoffFirst first

/-- A departure due readies the board with the count reloaded (R47). -/
theorem State.due_readied (hw : (s.route r).waiting = head :: behind) (held : head.held = true)
    (picked : head.pickState = some .picked) (bound : (s.train r).binding = .bound train capacity .ready)
    (idle : (s.route r).running = none) :
    s.ReadiedFrom (s.atBoard r) r head behind behind train capacity (s.route r).cfg.period := by
  rw [State.atBoard_of_held hw held]
  exact {
    route := by
      rw [State.route_modRoute, if_pos ⟨rfl, State.lt_of_waiting hw⟩, Tour.picked_eq picked, ← hw, ← idle]
      rfl
    tours := rfl
    binding := bound
    others := fun q hq => ⟨by rw [State.route_modRoute, if_neg fun same => hq same.1], rfl⟩
    clock := ⟨rfl, rfl⟩
    ring := ⟨rfl, rfl⟩
    alerts := .of_link (by rfl) (by rfl) (by rfl) (by rfl) _ }

/-- The part once a matching accept has bound a route and the backlog has drained over it (R114). -/
def State.accepted (s : State) (r train capacity : Nat) : State :=
  (s.modTrain r fun u => { u with binding := .bound train capacity .ready }).drain [r]

/-- The accept that binds the route readies the board; its drain may fill the tours behind the head (R114). -/
theorem State.accept_readied (hw : (s.route r).waiting = head :: behind) (frozen : head.state = .frozen)
    (picked : head.pickState = some .picked) (idle : (s.route r).running = none) :
    ∃ rest, s.ReadiedFrom (s.accepted r train capacity) r head behind rest train capacity (s.route r).count := by
  have hr := State.lt_of_waiting hw
  generalize hb : s.modTrain r (fun u => { u with binding := .bound train capacity .ready }) = bound
  have routes (q : Nat) : bound.route q = s.route q := by rw [← hb]; rfl
  have trains (q : Nat) : (s.accepted r train capacity).train q
      = if q = r then { s.train r with binding := .bound train capacity .ready } else s.train q := by
    rw [State.accepted, State.drain_eq]
    refine (State.train_modTrain s r q _).trans ?_
    by_cases hq : q = r <;> simp [hq, hr]
  have accepted : s.accepted r train capacity = bound.drain [r] := by rw [← hb]; rfl
  obtain ⟨rest, waiting, tours⟩ := State.drain_behind_frozen [r] (by rw [routes]; exact hw) frozen
  have fills := bound.drain_fillsTours [r]
  have record := fills.record r
  rw [waiting, routes] at record
  refine ⟨rest, ?_, tours, ?_, fun q hq => ⟨?_, ?_⟩, ?_, ?_, ?_⟩
  · rw [accepted, record, Tour.picked_eq picked, ← idle]
  · rw [trains, if_pos rfl]
  · rw [accepted, fills.others q (by simpa using hq), routes]
  · rw [trains, if_neg hq]
  · rw [State.accepted, State.drain_eq]
    exact ⟨rfl, rfl⟩
  · rw [State.accepted, State.drain_eq]
    exact ⟨rfl, rfl⟩
  · rw [accepted]
    have sets : s.alertsAmong bound lateAlerts := by
      rw [← hb]
      exact .of_link (by rfl) (by rfl) (by rfl) (by rfl) _
    exact sets.trans (State.offerOrders_alertsAmong [r] _ bound (by decide))

/-- The RETURN of the tour before it readies the board (R127). -/
theorem State.return_readied {heard : State} {tour : Tour} (sets : s.SetsTimers heard r)
    (hw : (s.route r).waiting = head :: behind) (picked : head.pickState = some .picked)
    (away : (s.train r).binding = .bound train capacity .onTour) :
    s.ReadiedFrom (heard.endTour r tour) r head behind behind train capacity (s.route r).count := by
  have hr := State.lt_of_waiting hw
  have frame : (heard.endTour r tour).pt = s.pt ∧ (heard.endTour r tour).takt = s.takt ∧
      (heard.endTour r tour).lineConfig = s.lineConfig ∧ (heard.endTour r tour).station = s.station := by
    rw [State.endTour_eq, State.ordersEnded_eq, sets.frame]
    exact ⟨rfl, rfl, rfl, rfl⟩
  obtain ⟨pt, takt, line, station⟩ := frame
  refine ⟨?_, rfl, ?_, fun q hq => ⟨?_, ?_⟩, ⟨pt, takt⟩, ⟨line, station⟩, ?_⟩
  · rw [State.route_endTour hr, if_pos rfl, sets.route, Tour.picked_eq picked, ← hw]
  · rw [State.train_endTour hr, if_pos rfl]
    dsimp only
    rw [sets.binding, away]
    rfl
  · rw [State.route_endTour hr, if_neg hq, sets.route]
  · rw [State.train_endTour hr, if_neg hq, sets.others q hq]
  · have quiet : s.alertsAmong heard lateAlerts := by
      rw [sets.frame]
      exact .of_link (by rfl) (by rfl) (by rfl) (by rfl) _
    exact quiet.trans (heard.endTour_alertsAmong r tour)

/-! ## The events as they are heard -/

/-- A PICK_DONE for a FROZEN head that is not PICKED makes it so and checks it (R68, R73). -/
theorem State.exec_pickDone {h : Hop} (hears : s.hearsPickStation h r) (hw : (s.route r).waiting = head :: behind)
    (frozen : head.state = .frozen) (unpicked : head.pickState ≠ some .picked) :
    exec (.pickDone h r head.number) s
      = .next ((s.modHead r fun x => { x with pickState := some .picked }).checkHeld r).settleLamps := by
  have taken : s.takePickDone r head.number
      = (s.modHead r fun x => { x with pickState := some .picked }).checkHeld r := by
    rw [State.takePickDone, State.pickHead_of_number hw frozen rfl]
    exact if_neg unpicked
  rw [← taken]
  exact congrArg Host.Outcome.next (State.hear_pick head.number .done hears)

/-- A CHECK_ACCEPT of the offer binds a route that has no RUNNING tour and checks its head (R114). -/
theorem State.exec_checkAccept {h : Hop} {offer left : Nat} (hr : r < 8) (hears : s.hearsBridge h train)
    (only : s.boundOnlyTo train r) (offered : (s.train r).binding = .offered train capacity left)
    (current : (s.train r).offerNumber = offer) (idle : (s.route r).running = none) :
    exec (.checkAccept h r train offer) s = .next ((s.accepted r train capacity).checkHeld r).settleLamps := by
  have inTable : r < Config.routeCount := hr
  have taken : s.takeAccept r train offer = (s.accepted r train capacity).checkHeld r := by
    rw [State.takeAccept, if_pos inTable, offered]
    exact if_pos ⟨rfl, current⟩
  have out : s.hearTrain h r train (.checkAccept offer) = ((s.heard train).takeAccept r train offer).settleLamps :=
    State.hear_train r (.checkAccept offer) hears
  rw [State.heard_idle only (.inl idle), taken] at out
  exact congrArg Host.Outcome.next out

/-- A RETURN of the bound train ends the RUNNING tour and checks the head (R127). -/
theorem State.exec_trainReturn {h : Hop} {tour : Tour} (hr : r < 8) (hears : s.hearsBridge h train)
    (only : s.boundOnlyTo train r) (away : (s.train r).binding = .bound train capacity .onTour)
    (runs : (s.route r).running = some tour) :
    exec (.trainReturn h r train) s = .next (((s.heard train).endTour r tour).checkHeld r).settleLamps := by
  have inTable : r < Config.routeCount := hr
  have sets := State.heard_setsTimers only
  have bound : (s.heard train).boundTrain r = some train := by
    rw [State.boundTrain, if_pos inTable, sets.binding, away]
    rfl
  have taken : (s.heard train).takeReturn r train = ((s.heard train).endTour r tour).checkHeld r := by
    rw [State.takeReturn, if_neg (fun stranger => stranger bound), sets.route, runs]
  have out : s.hearTrain h r train .trainReturn = ((s.heard train).takeReturn r train).settleLamps :=
    State.hear_train r .trainReturn hears
  rw [taken] at out
  exact congrArg Host.Outcome.next out

end

/-- Settles O22: each of the four events readies the board, and the readied head departs. -/
theorem heldHeadDepartsLate : Obligations.HeldHeadDepartsLate := by
  intro h r train capacity offer left head behind s hr hw frozen held plain count
  have departs (c : Instr) (n : Nat) {b : State} {rest : List Tour}
      (ready : s.ReadiedFrom b r head behind rest train capacity n) (out : exec c s = .next (b.checkHeld r).settleLamps) :
      ∃ t, exec c s = .next t ∧ s.departedLate t r head behind train capacity n := by
    rw [ready.checkHeld frozen held] at out
    exact ⟨_, out, ready.departedLate held plain⟩
  refine ⟨fun bound idle => ⟨fun hears unpicked => ?_, fun runs picked _ => ?_⟩,
    fun hears only picked => ⟨fun offered current idle => ?_, fun away runs => ?_⟩⟩
  · exact departs (.pickDone h r head.number) count (State.pickDone_readied hw bound idle)
      (State.exec_pickDone hears hw frozen unpicked)
  · have ready := State.due_readied hw held picked bound idle
    have out := State.exec_departureDue runs
    rw [ready.boardDue frozen] at out
    exact ⟨_, out, ready.departedLate held plain⟩
  · obtain ⟨rest, ready⟩ := State.accept_readied (train := train) (capacity := capacity) hw frozen picked idle
    exact departs (.checkAccept h r train offer) count ready (State.exec_checkAccept hr hears only offered current idle)
  · obtain ⟨tour, runs⟩ := Option.isSome_iff_exists.mp runs
    exact departs (.trainReturn h r train) count (State.return_readied (State.heard_setsTimers only) hw picked away)
      (State.exec_trainReturn hr hears only away runs)

end Sys2Proof.Machine
end

section
/-! The line state, plant time and the settings of LM and MU: the LINE telegrams away from a shift, and the server's TIME_SET,
LINE_CONFIG, ALERT_MASK and ALERT_ACK (R97 to R101, R108, R166, R169). -/

namespace Sys2Proof.Machine

/-! ## LINE telegrams (R99 to R101) -/

theorem clampTakt_eq (takt : Nat) : clampTakt takt = max 1 (min takt 6000) := by
  unfold clampTakt
  split <;> omega

/-- The line running with a reported takt, and nothing shifted (R100). -/
def State.reports (s : State) (takt : Nat) : State :=
  { s with takt := max 1 (min takt 6000), taktReported := true, lineState := .running }

/-- No stop ends where the line does not stand, so nothing shifts (R102). -/
theorem State.lineRuns_of_moving {s : State} (moving : ∀ since, s.lineState ≠ .stopped since) (takt : Nat) :
    s.lineRuns takt = s.reports takt := by
  unfold State.lineRuns State.reports
  rw [clampTakt_eq]
  split
  · exact absurd ‹_› (moving _)
  · rfl

/-- A stop of no ticks shifts nothing (R102). -/
theorem State.lineRuns_of_no_ticks {s : State} {since : Nat} (stopped : s.lineState = .stopped since) (noTicks : s.pt ≤ since)
    (takt : Nat) : s.lineRuns takt = s.reports takt := by
  have d : s.pt - since = 0 := Nat.sub_eq_zero_of_le noTicks
  unfold State.lineRuns State.reports
  simp only [stopped, d, if_true, clampTakt_eq]

/-- The first report of a stop dates it (R101). -/
theorem State.lineStops_of_moving {s : State} {now : Nat} (moving : ∀ since, s.lineState ≠ .stopped since)
    (clock : s.pt = now) : s.lineStops = { s with lineState := .stopped now } := by
  subst clock
  unfold State.lineStops
  split
  · exact absurd ‹_› (moving _)
  · rfl

/-- A repeated report keeps the time of the first (R101). -/
theorem State.lineStops_of_stopped {s : State} {since : Nat} (stopped : s.lineState = .stopped since) : s.lineStops = s := by
  simp only [State.lineStops, stopped]

/-- A stop reports no slot (R101). -/
@[simp] theorem State.lineStops_reported (s : State) : s.lineStops.reported = s.reported := by
  unfold State.lineStops
  split <;> rfl

/-- A LINE telegram that reports no slot ends with what LM makes of it (R99, R156). -/
theorem State.hear_line_settled {s : State} {h : Hop} (payload : List Byte) (op : LineOp) (hears : s.hearsLine h)
    (quiet : ((s.forward (Frame.sent h clsLine payload)).takeLine op).reported = []) :
    s.hear clsLine h payload (.line op) = (s.forward (Frame.sent h clsLine payload)).takeLine op := by
  rw [State.hear_line payload op hears, State.settleLamps_settled quiet]

/-- A RUNNING telegram that shifts nothing (R100). -/
theorem State.exec_lineRunning {s : State} {h : Hop} {takt : Nat} (hears : s.hearsLine h)
    (plain : (s.forward (Frame.sent h clsLine (byte 1 :: be16 takt))).lineRuns takt
      = (s.forward (Frame.sent h clsLine (byte 1 :: be16 takt))).reports takt) :
    exec (.lineRunning h takt) s
      = .next ((s.forward (Frame.sent h clsLine (byte 1 :: be16 takt))).reports takt) := by
  have settled : s.reported = [] := hears.1.2.2
  refine congrArg Host.Outcome.next ((State.hear_line_settled _ (.running takt) hears ?_).trans plain)
  simp only [State.takeLine, plain, State.reports, State.forward_reported, settled]

/-- A STOPPED telegram (R101). -/
theorem State.exec_lineStopped {s : State} {h : Hop} (hears : s.hearsLine h) :
    exec (.lineStopped h) s = .next (s.forward (Frame.sent h clsLine [byte 2])).lineStops := by
  have settled : s.reported = [] := hears.1.2.2
  refine congrArg Host.Outcome.next (State.hear_line_settled _ .stopped hears ?_)
  simp only [State.takeLine, State.lineStops_reported, State.forward_reported, settled]

/-- Settles O17: forwarding leaves LM's state, and LM takes the report. -/
theorem lineTelegramsSetLineState : Obligations.LineTelegramsSetLineState := by
  intro h takt s hears
  refine ⟨fun moving => ⟨State.exec_lineRunning hears (State.lineRuns_of_moving (by simpa using moving) takt), ?_⟩,
    fun since stopped => ?_⟩
  · rw [State.exec_lineStopped hears, State.lineStops_of_moving (by simpa using moving) (s.forward_pt _)]
  · rw [State.exec_lineStopped hears, State.lineStops_of_stopped (by simpa using stopped)]

/-! ## Plant time (R108, R166) -/

/-- The clock set, before the alert of the largest time (R108, R166). -/
theorem State.setTime_of_below (s : State) {time : Nat} (below : time < 4294967295) :
    s.setTime time = { s with pt := time, timeUnset := false, lineState := s.lineState.atTime time } :=
  if_neg (Nat.ne_of_lt below)

theorem State.setTime_of_largest (s : State) {time : Nat} (largest : time = 4294967295) :
    s.setTime time
      = State.raise { s with pt := time, timeUnset := false, lineState := s.lineState.atTime time } .timeSaturated :=
  if_pos largest

/-- A TIME_SET in SETUP is taken and answered OK (R163, R166). -/
theorem State.exec_timeSet {s : State} {e : Envelope} (time : Nat) (hears : s.hearsServer e) (setup : s.mode = .setup) :
    exec (.timeSet e time) s = .next ((s.setTime time).answered e 6 0 []) := by
  have quiet : (s.setTime time).reported = [] := by
    have settled : s.reported = [] := hears.1.2.2
    unfold State.setTime
    dsimp only
    split
    · simp only [State.raise_reported, settled]
    · exact settled
  exact congrArg Host.Outcome.next
    (State.hear_request_answered 0 0 (.timeSet time) (st := .ok) hears (by rw [setup]; rfl) (.inr rfl) quiet rfl)

/-- PT stands at its largest value (R166). -/
theorem State.reachMaxTime_of_largest {s : State} (largest : s.pt = 4294967295) : s.reachMaxTime = s :=
  if_pos (.inr (Nat.le_of_eq largest.symm))

/-- Settles O42: below and at the largest time, set by the server and reached by counting. -/
theorem plantTimeIsSetAndHolds : Obligations.PlantTimeIsSetAndHolds := by
  intro e time s
  refine ⟨fun hears setup => ?_, fun awake below => ?_, fun _ largest => ?_⟩
  · refine ⟨fun below => ?_, fun largest => ?_⟩
    · rw [State.exec_timeSet time hears setup, State.setTime_of_below s below]
      rfl
    · rw [State.exec_timeSet time hears setup, State.setTime_of_largest s largest]
      rfl
  · exact congrArg Host.Outcome.next (State.reachMaxTime_of_below awake below)
  · exact congrArg Host.Outcome.next (State.reachMaxTime_of_largest largest)

/-! ## Line configuration, alert mask and alert flags (R97, R169) -/

theorem State.tableWrite_line_refused {s : State} {index pacing takt bridge : Nat} {st : Status} (no : st ≠ .ok)
    (h : s.lineWriteStatus pacing takt bridge = st) : s.tableWrite (.lineConfig index pacing takt bridge) = (s, st) := by
  simp [State.tableWrite, h, no]

theorem State.tableWrite_line_taken {s : State} {index pacing takt bridge : Nat}
    (h : s.lineWriteStatus pacing takt bridge = .ok) :
    s.tableWrite (.lineConfig index pacing takt bridge) = (s.writeLine pacing takt bridge, .ok) := by
  simp [State.tableWrite, h]

section
variable {s : State} {pacing takt bridge : Nat}

/-- LINE_CONFIG is written in SETUP alone (R97). -/
theorem State.lineWriteStatus_of_run (run : s.mode = .run) : s.lineWriteStatus pacing takt bridge = .state :=
  if_pos (by simp [run])

theorem State.lineWriteStatus_range (setup : s.mode = .setup)
    (out : 63 < pacing ∨ takt = 0 ∨ 6000 < takt ∨ bridge = 0 ∨ 254 < bridge) :
    s.lineWriteStatus pacing takt bridge = .range := by
  rw [State.lineWriteStatus, if_neg (fun no => no setup), if_pos (by omega)]

theorem State.lineWriteStatus_ok (setup : s.mode = .setup)
    (fits : pacing ≤ 63 ∧ 1 ≤ takt ∧ takt ≤ 6000 ∧ 1 ≤ bridge ∧ bridge ≤ 254) :
    s.lineWriteStatus pacing takt bridge = .ok := by
  rw [State.lineWriteStatus, if_neg (fun no => no setup), if_neg (fun no => no fits)]

end

/-- An ALERT_ACK is taken in both modes and answered OK (R169). -/
theorem State.exec_alertAck {s : State} {e : Envelope} (named : Nat) (hears : s.hearsServer e) :
    exec (.alertAck e named) s = .next ((s.ackFlags named).answered e 14 0 []) := by
  have mode : RequestKind.alertAck.modeRefusal s.mode = none := by
    cases m : s.mode with
    | uncommissioned => exact absurd m hears.1.2.1
    | setup => rfl
    | run => rfl
  exact congrArg Host.Outcome.next
    (State.hear_request_answered 0 0 (.alertAck named) (st := .ok) hears mode (.inr rfl) hears.1.2.2 rfl)

/-- Settles O45: the checks of a LINE_CONFIG write by the mode and the ranges, and the mask and the flags as they are left. -/
theorem lineAndMaskAreWritten : Obligations.LineAndMaskAreWritten := by
  intro e index pacing takt bridge enables named s hears
  refine ⟨fun idle => ?_, State.exec_alertAck named hears⟩
  have line (st : Status) (t : State) (h : s.tableWrite (.lineConfig index pacing takt bridge) = (t, st)) :
      exec (.tableWriteLineConfig e index pacing takt bridge) s = .next (t.answered e 7 st.code []) := by
    have := State.hear_tableWrite (.lineConfig index pacing takt bridge) hears idle
    rw [h] at this
    exact congrArg _ this
  refine ⟨fun run => ?_, fun setup out => ?_, fun setup p t1 t2 b1 b2 => ?_, ?_⟩
  · exact line .state s (State.tableWrite_line_refused (by decide) (State.lineWriteStatus_of_run run))
  · exact line .range s (State.tableWrite_line_refused (by decide) (State.lineWriteStatus_range setup out))
  · exact line .ok _ (State.tableWrite_line_taken (State.lineWriteStatus_ok setup ⟨p, t1, t2, b1, b2⟩))
  · exact congrArg Host.Outcome.next (State.hear_tableWrite (.alertMask index enables) hears idle)

end Sys2Proof.Machine
end

section
/-! The shift at a restart: what it makes of an order, an entry, a tour, a record and the board of a route, and what it leaves of
the part (R102, R104 to R107). -/

namespace Sys2Proof.Machine

/-! ## Tables that forwarding and marks leave -/

@[simp] theorem State.route_forward (s : State) (f : Frame) (r : Nat) : (s.forward f).route r = s.route r := by
  rw [State.forward_eq]; rfl
@[simp] theorem State.slot_forward (s : State) (f : Frame) (i : Nat) : (s.forward f).slot i = s.slot i := by
  rw [State.forward_eq]; rfl
@[simp] theorem State.record_forward (s : State) (f : Frame) (k : Nat) : (s.forward f).record k = s.record k := by
  rw [State.forward_eq]; rfl

/-! ## Orders (R104, R105) -/

section
variable {s t : State} (pt : t.pt = s.pt) (slots : t.slots = s.slots)
include pt slots

/-- A shift reads of the part no more than PT and the margins (R105). -/
theorem State.keepsUrgent_congr : t.keepsUrgent = s.keepsUrgent := by
  funext slot due
  rw [State.keepsUrgent, State.keepsUrgent, State.slot, State.slot, pt, slots]

theorem State.shiftOrder_congr : t.shiftOrder = s.shiftOrder := by
  funext d o
  rw [State.shiftOrder, State.shiftOrder, State.keepsUrgent_congr pt slots]

theorem State.shiftEntry_congr : t.shiftEntry = s.shiftEntry := by
  funext d e
  rw [State.shiftEntry, State.shiftEntry, State.keepsUrgent_congr pt slots]

theorem State.shiftRoute_congr : t.shiftRoute = s.shiftRoute := by
  have tours : t.shiftTour = s.shiftTour := by
    funext d ro moves x
    rw [State.shiftTour, State.shiftTour, State.shiftEntry_congr pt slots]
  funext d ro
  rw [State.shiftRoute, State.shiftRoute, tours]

theorem State.shiftRecord_congr : t.shiftRecord = s.shiftRecord := by
  have pendings : t.shiftPending = s.shiftPending := by
    funext d p
    rw [State.shiftPending, State.shiftPending, State.keepsUrgent_congr pt slots]
  funext d rec
  rw [State.shiftRecord, State.shiftRecord, pendings]

end

/-! ## Entries and tours (R58, R61, R104) -/

/-- An entry without the LATE mark that an evaluation gives it. -/
def Entry.unmarked (e : Entry) : Entry := if e.isOpen then { e with late := false } else e

theorem Entry.evalLate_unmarked (arrival : Nat) (e : Entry) : (e.evalLate arrival).unmarked = e.unmarked := by
  cases live : e.isOpen with
  | false => simp [Entry.evalLate, live]
  | true =>
    have live' : Entry.isOpen { e with late := decide (e.due < arrival) } = true := live
    simp [Entry.evalLate, Entry.unmarked, live, live']

/-- A closed entry does not move, and an open one moves with its due time (R104, R105). -/
theorem State.shiftEntry_unmarked (s : State) (d : Nat) (e : Entry) :
    (s.shiftEntry d e).unmarked = if e.isOpen
      then { e with due := satAdd e.due d, urgent := e.urgent && s.keepsUrgent e.slot (satAdd e.due d), late := false }
      else e := by
  cases live : e.isOpen with
  | false => simp [State.shiftEntry, Entry.unmarked, live]
  | true =>
    have live' (due : Nat) (urgent : Bool) : Entry.isOpen { e with due := due, urgent := urgent } = true := live
    simp [State.shiftEntry, Entry.unmarked, live, live']

/-- Every open entry of a tour carries LATE exactly where the tour arrives after its due time (R61). -/
def Tour.marked (t : Tour) (ro : Route) : Prop :=
  ∀ e ∈ t.entries, e.isOpen = true → e.late = decide (e.due < t.arrival ro e.stop)

theorem Tour.evaluate_marked (t : Tour) (ro : Route) : (t.evaluate ro).marked ro := by
  intro e he live
  obtain ⟨x, -, rfl⟩ := List.mem_map.mp he
  have arrival : (t.evaluate ro).arrival ro = t.arrival ro := rfl
  rw [arrival]
  unfold Entry.evalLate at live ⊢
  split
  · rfl
  · rename_i closed
    rw [if_neg closed] at live
    exact absurd live closed

theorem Tour.evaluate_unmarked (t : Tour) (ro : Route) :
    (t.evaluate ro).entries.map Entry.unmarked = t.entries.map Entry.unmarked := by
  simp only [Tour.evaluate, List.map_map, Function.comp_def, Entry.evalLate_unmarked]

/-- Putting a tour in order changes its entry list alone (R58). -/
theorem Tour.ordered_eq (t : Tour) : t.ordered = { t with entries := t.ordered.entries } := by
  unfold Tour.ordered
  split <;> rfl

theorem Tour.ordered_of_planned {t : Tour} (planned : t.state = .planned) :
    t.ordered = { t with entries := sortOrdered Entry.before t.entries } := if_pos planned

theorem Tour.ordered_of_not_planned {t : Tour} (no : t.state ≠ .planned) : t.ordered = t := if_neg no

theorem Tour.ordered_perm (t : Tour) : t.ordered.entries.Perm t.entries := by
  unfold Tour.ordered
  split
  · exact sortOrdered_perm _ _
  · exact .refl _

theorem Tour.ordered_marked {t : Tour} {ro : Route} (h : t.marked ro) : t.ordered.marked ro := by
  have arrival : t.ordered.arrival ro = t.arrival ro := by rw [Tour.ordered_eq]; rfl
  intro e he live
  rw [arrival]
  exact h e (t.ordered_perm.mem_iff.mp he) live

section
variable (s : State) (d : Nat) (ro : Route) (moves : Bool) (t : Tour)

/-- A shift changes a tour's entries, and its planned departure where that moves (R104). -/
theorem State.shiftTour_eq :
    s.shiftTour d ro moves t = { t with
      entries := (s.shiftTour d ro moves t).entries,
      plannedDeparture := if moves then satAdd t.plannedDeparture d else t.plannedDeparture } := rfl

theorem State.shiftTour_state : (s.shiftTour d ro moves t).state = t.state := rfl

theorem State.shiftTour_marked : (s.shiftTour d ro moves t).marked ro := Tour.evaluate_marked _ ro

/-- But for their LATE marks, the entries of a shifted tour are the entries shifted, in their order. -/
theorem State.shiftTour_unmarked :
    (s.shiftTour d ro moves t).entries.map Entry.unmarked = t.entries.map fun e => (s.shiftEntry d e).unmarked := by
  rw [State.shiftTour, Tour.evaluate_unmarked, List.map_map]
  rfl

end

/-! ## The shift of the part (R104 to R107) -/

/-- A shift changes the backlog, the boards, the records, the reported slots and what LATE_ORDER changes. -/
theorem State.shift_eq (s : State) (d : Nat) :
    s.shift d = { s with
      backlog := sortOrdered Order.before (s.backlog.map (s.shiftOrder d)),
      routes := mapTable Route.ordered (mapTable (s.shiftRoute d) s.routes),
      records := mapTable (Option.map (s.shiftRecord d)) s.records,
      reported := (s.shift d).reported, forwardQueue := (s.shift d).forwardQueue, emitQueue := (s.shift d).emitQueue,
      ringOut := (s.shift d).ringOut, burst := (s.shift d).burst, flags := (s.shift d).flags } := by
  unfold State.shift State.reportAll
  dsimp only
  rw [State.noteMarks_eq]

theorem State.route_shift (s : State) (d : Nat) {r : Nat} (hr : r < 8) :
    (s.shift d).route r = (s.shiftRoute d (s.route r)).ordered := by
  have routes : (s.shift d).routes = mapTable Route.ordered (mapTable (s.shiftRoute d) s.routes) := by rw [State.shift_eq]
  rw [State.route, routes, getD_mapTable _ _ _ Route.blank, if_pos hr, getD_mapTable _ _ _ Route.blank, if_pos hr]
  rfl

theorem State.record_shift (s : State) (d : Nat) {k : Nat} (hk : k < 4) :
    (s.shift d).record k = (s.record k).map (s.shiftRecord d) := by
  have records : (s.shift d).records = mapTable (Option.map (s.shiftRecord d)) s.records := by rw [State.shift_eq]
  rw [State.record, records, getD_mapTable _ _ _ none, if_pos hk]
  rfl

end Sys2Proof.Machine
end

section
/-! The restart after a stop: a RUNNING telegram shifts every board and collection by the ticks stopped (R100, R102, R104 to
R107). -/

namespace Sys2Proof.Machine

/-! ## What a restart leaves of the part -/

/-- A restart after d ticks has shifted the backlog, the boards and the records, and the line runs with the takt reported. -/
structure State.RestartedTo (s t : State) (d takt : Nat) : Prop where
  lineState : t.lineState = .running
  takt : t.takt = max 1 (min takt 6000)
  taktReported : t.taktReported = true
  backlog : t.backlog = sortOrdered Order.before (s.backlog.map (s.shiftOrder d))
  route : ∀ r < 8, t.route r = (s.shiftRoute d (s.route r)).ordered
  record : ∀ k < 4, t.record k = (s.record k).map (s.shiftRecord d)
  slot : ∀ i, t.slot i = { s.slot i with lamp := (t.slot i).lamp }
  frame : t = { s with
    slots := t.slots, backlog := t.backlog, routes := t.routes, records := t.records, lineState := t.lineState,
    takt := t.takt, taktReported := t.taktReported, forwardQueue := t.forwardQueue, emitQueue := t.emitQueue,
    ringOut := t.ringOut, burst := t.burst, flags := t.flags, draws := t.draws, reported := t.reported }

/-- LM ends a stop of some ticks: the shift runs with the new takt in place, which it does not read (R100, R102). -/
theorem State.lineRuns_restarted {s : State} {since d : Nat} (stopped : s.lineState = .stopped since)
    (ticks : s.pt - since = d) (pos : d ≠ 0) (takt : Nat) : s.RestartedTo (s.lineRuns takt) d takt := by
  let x : State := { s with takt := max 1 (min takt 6000), taktReported := true }
  have runs : s.lineRuns takt = { x.shift d with lineState := .running } := by
    simp only [State.lineRuns, stopped, ticks, pos, if_false, clampTakt_eq, x]
  have sameOrder : x.shiftOrder d = s.shiftOrder d := congrFun (State.shiftOrder_congr (by rfl) (by rfl)) d
  have sameRoute : x.shiftRoute d = s.shiftRoute d := congrFun (State.shiftRoute_congr (by rfl) (by rfl)) d
  have sameRecord : x.shiftRecord d = s.shiftRecord d := congrFun (State.shiftRecord_congr (by rfl) (by rfl)) d
  rw [runs]
  constructor
  case lineState => rfl
  case takt => dsimp only; rw [State.shift_eq]
  case taktReported => dsimp only; rw [State.shift_eq]
  case backlog => dsimp only; rw [State.shift_eq, sameOrder]
  case route => exact fun r hr => (x.route_shift d hr).trans (by rw [sameRoute]; rfl)
  case record => exact fun k hk => (x.record_shift d hk).trans (by rw [sameRecord]; rfl)
  case slot =>
    intro i
    have same : (x.shift d).slot i = s.slot i := by rw [State.shift_eq]; rfl
    exact same.trans (by rw [← same]; rfl)
  case frame => dsimp only; rw [State.shift_eq]

/-- Lamp derivations leave what a restart has shifted (R19). -/
theorem State.RestartedTo.settleLamps {s t : State} {d takt : Nat} (h : s.RestartedTo t d takt) :
    s.RestartedTo t.settleLamps d takt where
  lineState := by rw [State.settleLamps_eq]; exact h.lineState
  takt := by rw [State.settleLamps_takt]; exact h.takt
  taktReported := by rw [State.settleLamps_eq]; exact h.taktReported
  backlog := by rw [State.settleLamps_backlog]; exact h.backlog
  route r hr := by rw [State.settleLamps_route]; exact h.route r hr
  record k hk := by rw [State.settleLamps_record]; exact h.record k hk
  slot i := by rw [State.settleLamps_slot, h.slot i]
  frame := by rw [State.settleLamps_eq, h.frame]

/-- Forwarding leaves what a shift reads and what it moves (R156). -/
theorem State.RestartedTo.of_forward {s t : State} {f : Frame} {d takt : Nat} (h : (s.forward f).RestartedTo t d takt) :
    s.RestartedTo t d takt where
  lineState := h.lineState
  takt := h.takt
  taktReported := h.taktReported
  backlog := by rw [h.backlog, State.forward_backlog, State.shiftOrder_congr (s.forward_pt f) (s.forward_slots f)]
  route r hr := by rw [h.route r hr, State.route_forward, State.shiftRoute_congr (s.forward_pt f) (s.forward_slots f)]
  record k hk := by rw [h.record k hk, State.record_forward, State.shiftRecord_congr (s.forward_pt f) (s.forward_slots f)]
  slot i := by rw [h.slot i, State.slot_forward]
  frame := by rw [h.frame, State.forward_eq]

/-- A RUNNING telegram after a stop of some ticks (R99, R100, R102). -/
theorem State.exec_lineRunning_restarted {s : State} {h : Hop} {takt since : Nat} (hears : s.hearsLine h)
    (stopped : s.lineState = .stopped since) (ticks : since < s.pt) :
    ∃ t, exec (.lineRunning h takt) s = .next t ∧ t.reported = [] ∧ s.RestartedTo t (s.pt - since) takt := by
  refine ⟨_, congrArg Host.Outcome.next (State.hear_line (byte 1 :: be16 takt) (.running takt) hears),
    State.settleLamps_reported _,
    State.RestartedTo.settleLamps (.of_forward (State.lineRuns_restarted (since := since) ?_ ?_ ?_ takt))⟩
  · rw [State.forward_lineState, stopped]
  · rw [State.forward_pt]
  · exact Nat.sub_ne_zero_of_lt ticks

/-! ## The tours of a route after a restart -/

/-- A waiting tour of a route after a shift by d, in order again where it is PLANNED (R58, R104). -/
def State.shiftWaiting (s : State) (d : Nat) (ro : Route) (old : Tour) : Tour :=
  (s.shiftTour d ro (ro.cfg.timing == .takt) old).ordered

section
variable {s t : State} {d takt r : Nat} (restarted : s.RestartedTo t d takt) (hr : r < 8)
include restarted hr

theorem State.RestartedTo.waiting : (t.route r).waiting = (s.route r).waiting.map (s.shiftWaiting d (s.route r)) := by
  rw [restarted.route r hr]
  exact List.map_map

theorem State.RestartedTo.running :
    (t.route r).running = (s.route r).running.map (s.shiftTour d (s.route r) false) := by
  rw [restarted.route r hr]
  rfl

theorem State.RestartedTo.routeFrame :
    t.route r = { s.route r with waiting := (t.route r).waiting, running := (t.route r).running } := by
  rw [restarted.route r hr]
  rfl

end

section
variable (s : State) (d : Nat) (ro : Route) (old : Tour)

/-- The planned departure moves on a TAKT route alone (R104). -/
theorem State.shiftWaiting_eq :
    s.shiftWaiting d ro old = { old with
      entries := (s.shiftWaiting d ro old).entries,
      plannedDeparture :=
        if ro.cfg.timing = .takt then satAdd old.plannedDeparture d else old.plannedDeparture } := by
  rw [State.shiftWaiting, Tour.ordered_eq, State.shiftTour_eq]
  simp only [beq_iff_eq]

theorem State.shiftWaiting_marked : (s.shiftWaiting d ro old).marked ro :=
  Tour.ordered_marked (s.shiftTour_marked d ro _ old)

/-- But for LATE marks and order, the entries of a waiting tour are the entries shifted. -/
theorem State.shiftWaiting_perm :
    ((s.shiftWaiting d ro old).entries.map Entry.unmarked).Perm
      (old.entries.map fun e => (s.shiftEntry d e).unmarked) := by
  rw [← s.shiftTour_unmarked d ro (ro.cfg.timing == .takt) old]
  exact (Tour.ordered_perm _).map _

theorem State.shiftWaiting_pairwise (planned : old.state = .planned) :
    (s.shiftWaiting d ro old).entries.Pairwise fun a b => Entry.before b a = false := by
  rw [State.shiftWaiting, Tour.ordered_of_planned ((s.shiftTour_state d ro _ old).trans planned)]
  exact sortOrdered_pairwise _ Entry.before_asymm Entry.before_trans

/-- A tour past PLANNED keeps the order of its entries (R104). -/
theorem State.shiftWaiting_unmarked (no : old.state ≠ .planned) :
    (s.shiftWaiting d ro old).entries.map Entry.unmarked = old.entries.map fun e => (s.shiftEntry d e).unmarked := by
  rw [State.shiftWaiting, Tour.ordered_of_not_planned (by rwa [State.shiftTour_state]), State.shiftTour_unmarked]

end

/-- Settles O18: with no ticks stopped nothing shifts, and else each collection is read off the restarted part. -/
theorem restartShiftsDueTimes : Obligations.RestartShiftsDueTimes := by
  intro h takt since s hears stopped due urgent moved unmarked marked
  refine ⟨fun noTicks => State.exec_lineRunning hears ?_, fun ticks => ?_⟩
  · exact State.lineRuns_of_no_ticks (since := since) (by simpa using stopped) (by simpa using noTicks) takt
  obtain ⟨t, out, settled, restarted⟩ := State.exec_lineRunning_restarted (takt := takt) hears stopped ticks
  have frame := restarted.frame
  have shifts : (fun e => (s.shiftEntry (s.pt - since) e).unmarked) = moved :=
    funext fun e => s.shiftEntry_unmarked (s.pt - since) e
  refine ⟨t, out, restarted.lineState, restarted.takt, restarted.taktReported, ?_, ?_, fun r hr => ?_, fun k hk => ?_,
    restarted.slot, ?_⟩
  · rw [restarted.backlog]
    exact sortOrdered_perm _ _
  · rw [restarted.backlog]
    exact sortOrdered_pairwise _ Order.before_asymm Order.before_trans
  · refine ⟨restarted.routeFrame hr, ?_, fun k old at_k => ?_, fun idle => ?_, fun old runs => ?_⟩
    · rw [restarted.waiting hr, List.length_map]
    · refine ⟨s.shiftWaiting (s.pt - since) (s.route r) old, ?_, s.shiftWaiting_eq _ _ old,
        shifts ▸ s.shiftWaiting_perm _ _ old, s.shiftWaiting_marked _ _ old, s.shiftWaiting_pairwise _ _ old,
        fun no => shifts ▸ s.shiftWaiting_unmarked _ _ old no⟩
      rw [restarted.waiting hr, List.getElem?_map, at_k]
      rfl
    · rw [restarted.running hr, idle]
      rfl
    · refine ⟨s.shiftTour (s.pt - since) (s.route r) false old, ?_, s.shiftTour_eq _ _ false old,
        shifts ▸ s.shiftTour_unmarked _ _ false old, s.shiftTour_marked _ _ false old⟩
      rw [restarted.running hr, runs]
      rfl
  · refine ⟨fun free => ?_, fun old live => ⟨s.shiftRecord (s.pt - since) old, ?_, rfl, ?_, ?_⟩⟩
    · rw [restarted.record k hk, free]
      rfl
    · rw [restarted.record k hk, live]
      rfl
    · exact sortOrdered_perm _ _
    · exact sortOrdered_pairwise _ Pending.before_asymm Pending.before_trans
  · have reported : t.reported = s.reported := settled.trans hears.1.2.2.symm
    rw [reported] at frame
    exact frame

end Sys2Proof.Machine
end

section
/-! RESOLVE: the checks a request on an interrupted tour record meets, the orders a dissolved record returns, and the tour a
resumed one runs again (R139 to R144). -/

namespace Sys2Proof.Machine

/-! ## The request (R139) -/

/-- A record that is live has one of the four ids (R132). -/
theorem State.lt_of_record {s : State} {k : Nat} {kept : Record} (live : s.record k = some kept) : k < 4 := by
  refine Decidable.byContradiction fun beyond => ?_
  simp [State.record, Vector.getD, beyond] at live

/-- Freeing a live record frees it alone. -/
theorem State.record_freed {s : State} {k : Nat} {kept : Record} (live : s.record k = some kept) (j : Nat) :
    (s.setRecord k none).record j = if j = k then none else s.record j := by
  rw [State.record_setRecord]
  by_cases same : j = k <;> simp [same, State.lt_of_record live]

/-- A RESOLVE of the server meets the record's checks, acts where they let it, and is answered (R139, R163). -/
theorem State.hear_resolve {s : State} {e : Envelope} (k route tour disposition : Nat) (hh : s.hearsServer e) :
    s.hearRequest e 0 0 (.resolve k route tour disposition)
      = ((if s.resolveStatus k route tour disposition = .ok then s.resolveRecord k disposition else s).answered e 13
          (s.resolveStatus k route tour disposition).code []).settleLamps := by
  have passes : (Request.resolve k route tour disposition).kind.modeRefusal s.mode = none := by
    cases hm : s.mode with
    | uncommissioned => exact absurd hm hh.1.2.1
    | setup => rfl
    | run => rfl
  rw [State.hear_request_taken 0 0 _ hh passes (.inr rfl), State.carryOut, State.doResolve, State.reply_answered]
  rfl

/-- A RESOLVE that a check of its record refuses is answered with that status, and that is all (R139). -/
theorem State.hear_resolve_refused {s : State} {e : Envelope} {k route tour disposition : Nat} {st : Status}
    (hh : s.hearsServer e) (status : s.resolveStatus k route tour disposition = st) (bad : st ≠ .ok) :
    s.hearRequest e 0 0 (.resolve k route tour disposition) = s.answered e 13 st.code [] := by
  rw [State.hear_resolve k route tour disposition hh, status, if_neg bad, State.answered_settled hh.1.2.2]

/-- A RESOLVE that passes its checks acts on its record and is answered OK (R139). -/
theorem State.hear_resolve_taken {s : State} {e : Envelope} {k route tour disposition : Nat} (hh : s.hearsServer e)
    (status : s.resolveStatus k route tour disposition = .ok) :
    s.hearRequest e 0 0 (.resolve k route tour disposition)
      = ((s.resolveRecord k disposition).answered e 13 0 []).settleLamps := by
  rw [State.hear_resolve k route tour disposition hh, status, if_pos rfl]
  rfl

/-- An answered event leaves the records as what it did before left them. -/
@[simp] theorem State.record_answered_settleLamps (x : State) (e : Envelope) (kind st : Nat) (data : List Byte) (j : Nat) :
    (x.answered e kind st data).settleLamps.record j = x.record j := by simp [State.answered, State.record]

/-! ## The checks of a record (R139) -/

theorem State.resolveStatus_noRecord {s : State} {k : Nat} (free : s.record k = none) (route tour disposition : Nat) :
    s.resolveStatus k route tour disposition = .noRecord := by
  rw [State.resolveStatus, free]

section
variable {s : State} {k : Nat} {kept : Record}

theorem State.resolveStatus_mismatch (live : s.record k = some kept) {route tour : Nat}
    (other : ¬ (kept.route = route ∧ kept.tour = tour)) (disposition : Nat) :
    s.resolveStatus k route tour disposition = .mismatch := by
  rw [State.resolveStatus, live]
  exact if_pos other

/-- A DISSOLVE with the record's stamp turns on the backlog's room (R139). -/
theorem State.resolveStatus_dissolve (live : s.record k = some kept) :
    s.resolveStatus k kept.route kept.tour 1
      = if s.backlog.length + kept.pending.length ≤ 64 then .ok else .backlogSpace := by
  simp only [State.resolveStatus, live, not_true_eq_false, and_self, if_false, if_true, State.backlogRoom_iff]

/-- A RESUME with the record's stamp turns on a READY train and a route with no RUNNING tour (R139). -/
theorem State.resolveStatus_resume (live : s.record k = some kept) :
    s.resolveStatus k kept.route kept.tour 2
      = if (s.train kept.route).binding.isReady ∧ (s.route kept.route).running.isNone then .ok else .notReady := by
  simp [State.resolveStatus, live]

theorem State.resolveRecord_dissolve (live : s.record k = some kept) : s.resolveRecord k 1 = s.dissolveRecord k kept := by
  rw [State.resolveRecord, live]
  rfl

theorem State.resolveRecord_resume (live : s.record k = some kept) : s.resolveRecord k 2 = s.resumeRecord k kept := by
  rw [State.resolveRecord, live]
  rfl

end

/-! ## DISSOLVE (R140) -/

/-- A dissolved record is freed, and its pending entries are rolled back one after another. -/
theorem State.dissolveRecord_eq_rollbacks (s : State) (k : Nat) (kept : Record) :
    s.dissolveRecord k kept
      = (kept.pending.map Pending.toEntry).foldl (fun x p => x.rollback .dissolved p) (s.setRecord k none) := by
  rw [List.foldl_map]
  rfl

/-- A dissolution changes the records, the backlog and the reported slots (R140). -/
theorem State.dissolveRecord_eq (s : State) (k : Nat) (kept : Record) :
    s.dissolveRecord k kept = { s.setRecord k none with
      backlog := (s.dissolveRecord k kept).backlog, reported := (s.dissolveRecord k kept).reported } := by
  rw [State.dissolveRecord_eq_rollbacks]
  exact State.rollbacks_eq .dissolved _ _

/-- The dissolved record is free, and no other has changed. -/
theorem State.record_dissolveRecord {s : State} {k : Nat} {kept : Record} (live : s.record k = some kept) (j : Nat) :
    (s.dissolveRecord k kept).record j = if j = k then none else s.record j := by
  rw [State.dissolveRecord_eq]
  exact State.record_freed live j

/-- The order of every pending entry joins the backlog (R140). -/
theorem State.dissolveRecord_backlog (s : State) (k : Nat) (kept : Record) :
    (s.dissolveRecord k kept).backlog.Perm (s.backlog ++ kept.pending.map fun p => p.toOrder .dissolved) := by
  have returned := State.rollbacks_backlog .dissolved (kept.pending.map Pending.toEntry) (s.setRecord k none)
  rw [← State.dissolveRecord_eq_rollbacks, List.map_map] at returned
  exact returned

/-- Settles O50: the checks in their order, then the record and the backlog as a dissolution leaves them. -/
theorem dissolveReturnsPending : Obligations.DissolveReturnsPending := by
  intro e k route tour s hh
  refine ⟨fun free => ?_, fun kept live => ⟨fun other => ?_, ?_⟩⟩
  · exact congrArg _ (State.hear_resolve_refused hh (State.resolveStatus_noRecord free _ _ _) (by decide))
  · exact congrArg _ (State.hear_resolve_refused hh (State.resolveStatus_mismatch live other _) (by decide))
  rintro rfl rfl
  have status := State.resolveStatus_dissolve live
  refine ⟨fun full => ?_, fun room => ?_⟩
  · rw [if_neg (Nat.not_le.mpr full)] at status
    exact congrArg _ (State.hear_resolve_refused hh status (by decide))
  · rw [if_pos room] at status
    have taken : exec (.resolveDissolve e k kept.route kept.tour) s
        = .next ((s.dissolveRecord k kept).answered e 13 0 []).settleLamps := by
      rw [← State.resolveRecord_dissolve live]
      exact congrArg _ (State.hear_resolve_taken hh status)
    have settled : s.reported = [] := hh.1.2.2
    have records := State.record_dissolveRecord live
    refine ⟨_, taken, ?_, fun j hj => ?_, ?_, State.slot_answered_settleLamps ?_ _ _ _ _, ?_⟩
    · rw [State.record_answered_settleLamps, records, if_pos rfl]
    · rw [State.record_answered_settleLamps, records, if_neg hj]
    · rw [State.answered_settleLamps_eq]
      exact s.dissolveRecord_backlog k kept
    · rw [State.dissolveRecord_eq]
      rfl
    · rw [State.answered_settleLamps_eq, State.dissolveRecord_eq]
      simp only [State.setRecord, settled]

/-! ## RESUME (R141, R143, R144) -/

/-- The tour a record runs again as, its LATE marks evaluated (R141 steps 1 to 3). -/
def State.resuming (s : State) (kept : Record) : Tour := (kept.toTour s.pt).evaluate (s.route kept.route)

/-- What an evaluation of LATE marks does not touch of the entries is that of the pending entries. -/
theorem State.resuming_entries_map {β : Type} (s : State) (kept : Record) (f : Entry → β)
    (unmarked : ∀ e, f e.unmarked = f e) :
    (s.resuming kept).entries.map f = kept.pending.map fun p => f p.toEntry := by
  have same := congrArg (List.map f) (Tour.evaluate_unmarked (kept.toTour s.pt) (s.route kept.route))
  simp only [List.map_map, Function.comp_def, unmarked, Record.toTour] at same
  exact same

/-- An entry's LATE mark says nothing of its number, order or state. -/
theorem Entry.unmarked_names (e : Entry) :
    e.unmarked.number = e.number ∧ e.unmarked.orderId = e.orderId ∧ e.unmarked.state = e.state := by
  unfold Entry.unmarked
  split <;> exact ⟨rfl, rfl, rfl⟩

/-- Every entry of a resumed tour is LOADED (R141 step 2). -/
theorem State.resuming_loaded (s : State) (kept : Record) : ∀ x ∈ (s.resuming kept).entries, x.state = .loaded := by
  intro x hx
  have states := s.resuming_entries_map kept Entry.state fun e => e.unmarked_names.2.2
  have mem : x.state ∈ kept.pending.map fun p => p.toEntry.state := states ▸ List.mem_map_of_mem hx
  obtain ⟨p, -, hp⟩ := List.mem_map.mp mem
  exact hp.symm

/-- The part once the tour runs again, before its train starts (R141 steps 1 to 3). -/
def State.resumed (s : State) (kept : Record) : State :=
  (s.modRoute kept.route fun ro => { ro with running := some (s.resuming kept) }).noteMarks (kept.toTour s.pt).entries
    (s.resuming kept).entries

/-- A resumption is the tour's return to its route, its train's start, and the record's freeing (R141). -/
theorem State.resumeRecord_eq_steps (s : State) (k : Nat) (kept : Record) :
    s.resumeRecord k kept = ((s.resumed kept).startTour kept.route (s.resuming kept)).setRecord k none := rfl

/-- The tour's return changes the routes, the reported slots and what LATE_ORDER changes. -/
theorem State.resumed_eq (s : State) (kept : Record) :
    s.resumed kept = { s with
      routes := (s.resumed kept).routes, reported := (s.resumed kept).reported,
      forwardQueue := (s.resumed kept).forwardQueue, emitQueue := (s.resumed kept).emitQueue,
      ringOut := (s.resumed kept).ringOut, burst := (s.resumed kept).burst, flags := (s.resumed kept).flags } := by
  unfold State.resumed
  rw [State.noteMarks_eq]
  rfl

theorem State.train_resumed (s : State) (kept : Record) (q : Nat) : (s.resumed kept).train q = s.train q :=
  State.train_noteMarks _ _ _ q

/-- A resumption changes the routes, the trains, the records, the reported slots and what emission changes (R141). -/
theorem State.resumeRecord_eq (s : State) (k : Nat) (kept : Record) :
    s.resumeRecord k kept = { s.setRecord k none with
      routes := (s.resumeRecord k kept).routes, trains := (s.resumeRecord k kept).trains,
      reported := (s.resumeRecord k kept).reported, forwardQueue := (s.resumeRecord k kept).forwardQueue,
      emitQueue := (s.resumeRecord k kept).emitQueue, ringOut := (s.resumeRecord k kept).ringOut,
      burst := (s.resumeRecord k kept).burst, flags := (s.resumeRecord k kept).flags } := by
  rw [State.resumeRecord_eq_steps, State.startTour_eq, State.resumed_eq]
  rfl

/-- The resumed record is free, and no other has changed. -/
theorem State.record_resumeRecord {s : State} {k : Nat} {kept : Record} (live : s.record k = some kept) (j : Nat) :
    (s.resumeRecord k kept).record j = if j = k then none else s.record j := by
  rw [State.resumeRecord_eq]
  exact State.record_freed live j

/-- The record's tour is the RUNNING tour of its route, and no other route has changed (R141). -/
theorem State.route_resumeRecord (s : State) (k : Nat) {kept : Record} (hr : kept.route < 8) (q : Nat) :
    (s.resumeRecord k kept).route q
      = if q = kept.route then { s.route kept.route with running := some (s.resuming kept) } else s.route q := by
  have returned : (s.resumeRecord k kept).route q = (s.resumed kept).route q := State.route_startTour _ _ q _
  rw [returned, State.resumed, State.route_noteMarks, State.route_modRoute]
  by_cases hq : q = kept.route <;> simp [hq, hr]

/-- The route's train is ON_TOUR with the saved limit, and no other train has changed (R117, R141, R144). -/
theorem State.train_resumeRecord (s : State) (k : Nat) {kept : Record} (hr : kept.route < 8) (q : Nat) :
    (s.resumeRecord k kept).train q = if q = kept.route then
      { s.train kept.route with binding := (s.train kept.route).binding.withState .onTour, silenceTimer := kept.limit,
                                confirmTimer := none }
    else s.train q := by
  have started : (s.resumeRecord k kept).train q
      = ((s.resumed kept).startTour kept.route (s.resuming kept)).train q := rfl
  rw [started, State.train_startTour hr, State.train_resumed, State.train_resumed]
  rfl

/-- The bound train is sent the ROUTE_ORDER of the saved stop list; the alert of a LATE mark at most comes before it (R143). -/
theorem State.resumeRecord_sendsRouteOrder (s : State) (k : Nat) (kept : Record) {t : State}
    (quiet : (s.resumeRecord k kept).sendsNo t clsTrainDown) :
    s.sendsRouteOrder t 1 kept.route ((s.train kept.route).binding.trainId.getD 0) (s.resuming kept) := by
  have marks : s.alertsOnce (s.resumed kept) .lateOrder :=
    State.alertsOnce.trans (.of_sends_nil (.of_link (by rfl) (by rfl) (by rfl) (by rfl)) _)
      (State.noteMarks_alertsOnce _ _ _)
  obtain ⟨sent, sends, alerts, few, -⟩ := marks
  refine State.sendsSeries_of_before sends few (fun f hf => by rw [alerts f hf]; decide) fun room => ?_
  have told := State.startTour_sends (s := s.resumed kept) (Nat.lt_of_succ_le room) kept.route (s.resuming kept)
  have line : (s.resumed kept).lineConfig = s.lineConfig := by rw [State.resumed_eq]
  have station : (s.resumed kept).station = s.station := by rw [State.resumed_eq]
  have saved (ro : Route) : (s.resuming kept).stopList ro = kept.stops := rfl
  rw [line, station, State.train_resumed, saved, ← saved (s.route kept.route)] at told
  exact ⟨_, told.trans (.of_link (by rfl) (by rfl) (by rfl) (by rfl)), quiet⟩

/-- Settles O51: the check, then the tour, its train and its record as a resumption leaves them. -/
theorem resumeRunsTourAgain : Obligations.ResumeRunsTourAgain := by
  intro e k kept s hh live hr
  have status := State.resolveStatus_resume live
  refine ⟨fun unready => ?_, fun train capacity bound idle => ?_⟩
  · have no : ¬ ((s.train kept.route).binding.isReady ∧ (s.route kept.route).running.isNone) := by
      rintro ⟨ready, idle⟩
      rcases unready with unready | runs
      · exact absurd ready (by simp [unready])
      · exact absurd runs (by simpa using idle)
    rw [if_neg no] at status
    exact congrArg _ (State.hear_resolve_refused hh status (by decide))
  · rw [if_pos ⟨by rw [bound]; rfl, by rw [idle]; rfl⟩] at status
    have taken : exec (.resolveResume e k kept.route kept.tour) s
        = .next ((s.resumeRecord k kept).answered e 13 0 []).settleLamps := by
      rw [← State.resolveRecord_resume live]
      exact congrArg _ (State.hear_resolve_taken hh status)
    have settled : s.reported = [] := hh.1.2.2
    have routes := s.route_resumeRecord k hr
    have trains := s.train_resumeRecord k hr
    rw [bound] at trains
    have records := State.record_resumeRecord live
    have orderIds := s.resuming_entries_map kept Entry.orderId fun e => e.unmarked_names.2.1
    have numbers := s.resuming_entries_map kept Entry.number fun e => e.unmarked_names.1
    have tells := s.resumeRecord_sendsRouteOrder k kept ((State.emit_sendsNo (s.resumeRecord k kept)
      (cls := clsMaintReply) (by decide) e.src ([byte 13, byte e.number, byte 0] ++ [])).trans
        (State.settleLamps_sendsNo _ (by decide)))
    rw [bound] at tells
    refine ⟨_, s.resuming kept, taken, ?_, rfl, orderIds, numbers, s.resuming_loaded kept, tells, ?_,
      fun q hq => ⟨?_, ?_⟩, ?_, fun j hj => ?_, State.slot_answered_settleLamps ?_ _ _ _ _, ?_⟩
    · rw [State.route_answered_settleLamps, routes, if_pos rfl]
    · rw [State.train_answered_settleLamps, trains, if_pos rfl]
      rfl
    · rw [State.route_answered_settleLamps, routes, if_neg hq]
    · rw [State.train_answered_settleLamps, trains, if_neg hq]
    · rw [State.record_answered_settleLamps, records, if_pos rfl]
    · rw [State.record_answered_settleLamps, records, if_neg hj]
    · rw [State.resumeRecord_eq]
      rfl
    · rw [State.answered_settleLamps_eq, State.resumeRecord_eq]
      simp only [State.setRecord, settled]

end Sys2Proof.Machine
end

section
/-! The part at reset: every member of its tables at its reset value, and with it every invariant (R3, R39, R110, R132, R172). -/

namespace Sys2Proof.Machine

/-! ## Tables at reset -/

/-- A member of a table whose members are all one value. -/
theorem getD_replicate {α : Type} (n j : Nat) (a : α) : (Vector.replicate n a).getD j a = a := by
  by_cases hj : j < n <;> simp [Vector.getD, hj]

@[simp] theorem State.slot_reset (i : Nat) : State.reset.slot i = Slot.fresh SlotConfig.blank := getD_replicate 512 i _

@[simp] theorem State.route_reset (r : Nat) : State.reset.route r = Route.blank := getD_replicate 8 r _

@[simp] theorem State.train_reset (r : Nat) : State.reset.train r = TrainUnit.blank := getD_replicate 8 r _

@[simp] theorem State.record_reset (k : Nat) : State.reset.record k = none := getD_replicate 4 k _

/-- No order lives at reset: the backlog and the boards are empty, and the records free. -/
theorem State.liveOrders_reset : State.reset.liveOrders = [] := by
  have backlog : State.reset.backlog = [] := rfl
  simp [State.liveOrders, backlog, Route.board, Route.blank]

/-! ## The invariants -/

theorem State.ordersAccounted_reset : State.reset.ordersAccounted := by
  refine ⟨fun i _ => ?_, ?_, ?_, Nat.le_refl 1, by decide⟩ <;> rw [State.liveOrders_reset]
  · rw [State.slot_reset]
    rfl
  · exact List.nodup_nil
  · exact fun x mem => absurd mem List.not_mem_nil

theorem State.entriesSound_reset : State.reset.entriesSound := by
  refine ⟨fun r _ => ⟨fun t mem => ?_, fun t mem => ?_⟩, fun k _ kept mem => ?_⟩
  · simp [Route.blank] at mem
  · simp [Route.blank] at mem
  · simp at mem

theorem State.racksSized_reset : State.reset.racksSized := by
  refine ⟨fun c mem => ?_, ?_⟩
  · obtain ⟨slot, member, rfl⟩ := List.mem_map.mp mem
    have blank : slot = Slot.fresh SlotConfig.blank :=
      (Vector.mem_replicate.mp (Vector.mem_toList_iff.mp member)).2
    rw [blank]
    exact Nat.zero_le 8
  · rintro image (stored | ⟨op, runs, -⟩)
    · exact nomatch stored
    · exact nomatch runs

/-- Settles O54: the collections are empty, and each table's members stand at their reset values. -/
theorem resetMeetsInvariants : Obligations.ResetMeetsInvariants := by
  refine ⟨⟨Nat.zero_le _, Nat.zero_le _, Nat.zero_le _⟩, fun _ => ⟨rfl, rfl⟩, ⟨Nat.zero_le _, List.Pairwise.nil⟩,
    fun i _ => ?_, State.ordersAccounted_reset, State.entriesSound_reset, State.racksSized_reset,
    ⟨by decide, by decide⟩, fun _ => ⟨fun r _ => ?_, fun k _ => State.record_reset k⟩, fun r _ => ?_, rfl⟩
  · rw [State.slot_reset]
    exact Nat.zero_le 0
  · rw [State.route_reset]
    exact ⟨rfl, rfl⟩
  · rw [State.route_reset, State.train_reset]
    decide

end Sys2Proof.Machine
end

section
/-! Telegrams that reach no block, and requests that MU refuses: a command that is a telegram is its frame's arrival (R155, R162,
R163, R172). -/

namespace Sys2Proof.Machine

/-! ## Commands as the arrival of their frames -/

/-- A command of the server is the arrival of the request it carries. -/
theorem State.exec_of_requestOf {c : Instr} {e : Envelope} {q : Request} (h : requestOf c = some (e, q)) (s : State) :
    exec c s = .next (s.hearRequest e (passedFields c).1 (passedFields c).2 q) := by
  cases c <;> cases h <;> rfl

/-- A plant station's command is the arrival of its frame: no MAINT_REPLY, and no request to MU. -/
theorem State.exec_of_plantFrame {c : Instr} {f : Frame} (h : plantFrame c = some f) (s : State) :
    ∃ t, exec c s = .next (s.receive f t) ∧ (∀ q, t ≠ .maintReq q) ∧ f.cls ≠ clsMaintReply := by
  have cls (hop : Hop) (n : Nat) (p : List Byte) (no : n ≠ clsMaintReply) : (Frame.sent hop n p).cls ≠ clsMaintReply := no
  cases c <;> cases h <;> exact ⟨_, rfl, fun _ => Telegram.noConfusion, cls _ _ _ (by decide)⟩

/-- The frame of a command is that of an unlisted kind, of its request, or of its plant station's telegram. -/
theorem telegramFrame_cases {c : Instr} {f : Frame} (h : telegramFrame c = some f) :
    (∃ e kind, c = .unknownKindRequest e kind) ∨ (∃ e q, requestOf c = some (e, q) ∧ f = requestFrame c e q) ∨
      plantFrame c = some f := by
  unfold telegramFrame at h
  split at h
  · exact .inl ⟨_, _, rfl⟩
  · split at h
    · rename_i e q request
      exact .inr (.inl ⟨e, q, request, (Option.some.inj h).symm⟩)
    · exact .inr (.inr h)

/-- A command that is a telegram is the arrival of a frame. -/
theorem State.exec_of_telegramFrame {c : Instr} {f : Frame} (h : telegramFrame c = some f) (s : State) :
    ∃ g t, exec c s = .next (s.receive g t) := by
  rcases telegramFrame_cases h with ⟨e, kind, rfl⟩ | ⟨e, q, request, -⟩ | plant
  · exact ⟨_, _, rfl⟩
  · exact ⟨_, _, State.exec_of_requestOf request s⟩
  · obtain ⟨t, heard, -⟩ := State.exec_of_plantFrame plant s
    exact ⟨f, t, heard⟩

/-! ## Frames that reach no block -/

/-- A part held in reset hears no frame (R172). -/
theorem State.receive_of_resetLow {s : State} (low : s.resetLow = true) (f : Frame) (t : Telegram) : s.receive f t = s :=
  if_pos low

theorem State.receiveBytes_of_resetLow {s : State} (low : s.resetLow = true) (bytes : List Byte) :
    s.receiveBytes bytes = s := by
  unfold State.receiveBytes
  split
  · exact State.receive_of_resetLow low _ _
  · exact if_pos low

/-- In UNCOMMISSIONED LU strips its own answers and the frames of its former station number alone (R151). -/
theorem State.strips_uncommissioned {s : State} {f : Frame} (bare : s.mode = .uncommissioned) (cls : f.cls ≠ clsMaintReply)
    (former : s.formerStation ≠ some f.src) : s.strips f = false := by
  rw [State.strips, State.ownAnswer, bare, beq_false_of_ne cls]
  exact beq_false_of_ne former

/-- In UNCOMMISSIONED a frame that is no request and not the part's own travels on (R155). -/
theorem State.receive_uncommissioned {s : State} {f : Frame} {t : Telegram} (awake : s.resetLow = false)
    (bare : s.mode = .uncommissioned) (settled : s.settled) (former : s.formerStation ≠ some f.src)
    (cls : f.cls ≠ clsMaintReply) (noRequest : ∀ q, t ≠ .maintReq q) : s.receive f t = s.forward f := by
  have passes : s.disposeBare f t = s.forward f := by
    cases t with
    | maintReq q => exact absurd rfl (noRequest q)
    | _ => rfl
  have quiet : (s.forward f).reported = [] := (s.forward_reported f).trans settled
  rw [State.receive, if_neg (by simp [awake]), if_neg (by simp [State.strips_uncommissioned bare cls former]), if_pos bare,
    passes, State.settleLamps_settled quiet]

/-- Settles O8: no frame is heard in reset, and in UNCOMMISSIONED a plant station's frame is forwarded. -/
theorem unheardTelegramsPass : Obligations.UnheardTelegramsPass := by
  intro c f bytes s
  refine ⟨fun low telegram => ⟨?_, ?_⟩, fun awake bare settled former plant => ?_⟩
  · obtain ⟨g, t, heard⟩ := State.exec_of_telegramFrame telegram s
    rw [heard, State.receive_of_resetLow low]
  · exact congrArg Host.Outcome.next (State.receiveBytes_of_resetLow low bytes)
  · obtain ⟨t, heard, noRequest, cls⟩ := State.exec_of_plantFrame plant s
    rw [heard, State.receive_uncommissioned awake bare settled former cls noRequest]

/-! ## Requests that MU refuses (R162, R163) -/

/-- What MU makes of a telegram addressed to a part that attends. -/
theorem State.hear_addressed {s : State} {e : Envelope} (attends : s.attends) (here : s.station = some e.dst)
    (foreign : e.src ≠ e.dst) (payload : List Byte) (q : MaintReq) :
    s.hear clsMaintReq { dst := e.dst, src := e.src } payload (.maintReq q) = (s.serve e.src q).settleLamps := by
  obtain ⟨awake, commissioned, -⟩ := attends
  have own : s.strips (Frame.make clsMaintReq e.dst e.src payload) = false :=
    State.strips_foreign commissioned (by simp [clsMaintReq, clsMaintReply]) (by simpa [here] using foreign.symm)
  simp [State.hear, State.receive, awake, own, commissioned, State.dispose, here]

theorem State.serve_unknownKind (s : State) (e : Envelope) (kind : Nat) :
    s.serve e.src { kindByte := byte kind, numberByte := byte e.number, kind := none, serial := none, body := none }
      = s.answered e kind 1 [] := s.reply_answered e kind .unknownKind []

/-- A request of a kind none of the seventeen is answered UNKNOWN_KIND, whoever sent it (R163 step 1). -/
theorem State.exec_unknownKindRequest {s : State} {e : Envelope} (kind : Nat) (attends : s.attends)
    (here : s.station = some e.dst) (foreign : e.src ≠ e.dst) :
    exec (.unknownKindRequest e kind) s = .next (s.answered e kind 1 []) := by
  refine congrArg Host.Outcome.next ((State.hear_addressed attends here foreign _ _).trans ?_)
  rw [State.serve_unknownKind, State.answered_settled attends.2.2]

/-- A command whose request one of MU's checks refuses is answered with that status, and changes nothing else (R163). -/
theorem State.exec_refused {c : Instr} {e : Envelope} {q : Request} {s : State} {st : Status} (attends : s.attends)
    (here : s.station = some e.dst) (foreign : e.src ≠ e.dst) (request : requestOf c = some (e, q))
    (refused : s.maintRefusal e.src q.kind true = some st) :
    exec c s = .next (s.answered e q.kind.code st.code (s.refusalData q.kind)) := by
  have serves : s.serve e.src (q.read e.number) = s.answered e q.kind.code st.code (s.refusalData q.kind) := by
    simp [State.serve, Request.read, refused, State.reply, State.answered]
  rw [State.exec_of_requestOf request, State.hearRequest, State.hear_addressed attends here foreign, serves,
    State.answered_settled attends.2.2]

section
variable {s : State} {src : Nat} {k : RequestKind}

theorem State.maintRefusal_notServer (commissioned : s.mode ≠ .uncommissioned) (stranger : s.server ≠ some src)
    (kind : k ≠ .identify) : s.maintRefusal src k true = some .notServer :=
  if_pos ⟨commissioned, kind, stranger⟩

theorem State.maintRefusal_mode {st : Status} (server : s.server = some src) (no : k.modeRefusal s.mode = some st) :
    s.maintRefusal src k true = some st := by
  simp [State.maintRefusal, server, no]

theorem State.maintRefusal_busy (commissioned : s.mode ≠ .uncommissioned) (server : s.server = some src)
    (taken : k.modeRefusal s.mode = none) (runs : s.storeOp.isSome) (waits : k.waitsForStore = true) :
    s.maintRefusal src k true = some .busy := by
  simp [State.maintRefusal, server, taken, commissioned, runs, waits]

/-- A refused COMMISSION's reply carries the unit serial (DEDUCED, log entry 15). -/
theorem State.refusalData_of_not_identify (kind : k ≠ .identify) :
    s.refusalData k = if k = .commission then be48 s.serial else [] := by
  cases k with
  | identify => exact absurd rfl kind
  | _ => rfl

end

/-- How the kinds named in Table 10-2 are refused in SETUP and in RUN. -/
theorem RequestKind.modeRefusal_commission {m : Mode} (commissioned : m ≠ .uncommissioned) :
    RequestKind.commission.modeRefusal m = some .locked := by
  cases m with
  | uncommissioned => exact absurd rfl commissioned
  | setup => rfl
  | run => rfl

theorem RequestKind.modeRefusal_run {k : RequestKind} (kind : k ∈ [.decommission, .start, .timeSet, .save]) :
    k.modeRefusal .run = some .state := by
  revert k; decide

/-- The kinds that wait for a store operation, in the modes that take them (R163 step 4). -/
theorem RequestKind.waits_of_taken {k : RequestKind} {m : Mode} (commissioned : m ≠ .uncommissioned)
    (kind : k = .tableWrite ∨ m = .setup ∧ k ∈ [.save, .decommission, .start]) :
    k.modeRefusal m = none ∧ k.waitsForStore = true ∧ k ≠ .commission ∧ k ≠ .identify := by
  rcases kind with rfl | ⟨rfl, kind⟩
  · cases m with
    | uncommissioned => exact absurd rfl commissioned
    | _ => decide
  · revert k; decide

/-- Settles O36: each of MU's checks by the mode and the kind, once those before it pass. -/
theorem refusedRequestsChangeNothing : Obligations.RefusedRequestsChangeNothing := by
  intro c e q kind s attends here foreign
  have commissioned := attends.2.1
  refine ⟨State.exec_unknownKindRequest kind attends here foreign, fun request => ?_⟩
  have refuses {st : Status} (no : s.maintRefusal e.src q.kind true = some st) (kind : q.kind ≠ .identify) :
      exec c s = .next (s.answered e q.kind.code st.code (if q.kind = .commission then be48 s.serial else [])) :=
    State.refusalData_of_not_identify kind ▸ State.exec_refused attends here foreign request no
  have refusesPlain {st : Status} (no : s.maintRefusal e.src q.kind true = some st) (other : q.kind ≠ .commission)
      (kind : q.kind ≠ .identify) : exec c s = .next (s.answered e q.kind.code st.code []) := by
    rw [refuses no kind, if_neg other]
  refine ⟨fun stranger kind => refuses (st := .notServer) (State.maintRefusal_notServer commissioned stranger kind) kind,
    fun server => ⟨fun kind => ?_, fun setup kind => ?_, fun run kind => ?_, fun runs kind => ?_⟩⟩
  · have locked := refuses (st := .locked)
      (State.maintRefusal_mode server (kind ▸ RequestKind.modeRefusal_commission commissioned)) (by simp [kind])
    rwa [kind] at locked ⊢
  · have state := refusesPlain (st := .state) (State.maintRefusal_mode server (by rw [kind, setup]; rfl))
      (by simp [kind]) (by simp [kind])
    rwa [kind] at state
  · exact refusesPlain (st := .state) (State.maintRefusal_mode server (run ▸ RequestKind.modeRefusal_run kind))
      (fun no => by simp [no] at kind) (fun no => by simp [no] at kind)
  · obtain ⟨taken, waits, other, named⟩ := RequestKind.waits_of_taken commissioned kind
    exact refusesPlain (st := .busy) (State.maintRefusal_busy commissioned server taken runs waits) other named

end Sys2Proof.Machine
end

section
/-! The operations of the setting store: DECOMMISSION and SAVE as their requests start them and as they end (R162, R163, R165,
R170). -/

namespace Sys2Proof.Machine

/-! ## The start of an operation -/

/-- A request of the server in SETUP that starts a store operation is answered at its end, and not before (R162). -/
theorem State.hear_startStore {s : State} {e : Envelope} {q : Request} {work : StoreWork} (hears : s.hearsServer e)
    (taken : q.kind.modeRefusal s.mode = none) (idle : s.storeOp = none)
    (starts : ∀ c, s.carryOut c q = s.startStore c work) :
    s.hearRequest e 0 0 q = { s with
      store := .started, storeOp := some { work := work, replyTo := e.src, number := e.number % 256, elapsed := 0 } } := by
  rw [State.hear_request_taken 0 0 q hears taken (.inl idle), starts]
  refine (State.settleLamps_settled (s := s.startStore _ work) hears.1.2.2).trans ?_
  simp [State.startStore, byte]

/-! ## DECOMMISSION (R165) -/

/-- An erase ends with its reply, and then the part is empty (R165). -/
theorem State.eraseEnds_of_erase {s : State} {op : StoreOp} (runs : s.storeOp = some op) (work : op.work = .erase) :
    s.eraseEnds = (s.emit clsMaintReply op.replyTo [3, byte op.number, 0]).decommissioned := by
  simp only [State.eraseEnds, runs, work]
  rfl

theorem State.eraseEnds_of_idle {s : State} (idle : s.storeOp = none) : s.eraseEnds = s := by
  simp only [State.eraseEnds, idle]

/-- Settles O39: the start of the erase, and its end field by field. -/
theorem decommissionEmptiesPart : Obligations.DecommissionEmptiesPart := by
  intro e op s
  refine ⟨fun hears setup idle => ?_, fun runs work => ?_, fun idle => ?_⟩
  · exact congrArg Host.Outcome.next
      (State.hear_startStore (q := .decommission) hears (by rw [setup]; rfl) idle fun _ => rfl)
  · refine congrArg Host.Outcome.next ((State.eraseEnds_of_erase runs work).trans ?_)
    rw [State.decommissioned, State.emit_station]
    rfl
  · exact congrArg Host.Outcome.next (State.eraseEnds_of_idle idle)

/-! ## SAVE (R170) -/

/-- A write ends with the valid image, its reply and SAVE_DONE (R170). -/
theorem State.saveEnds_of_write {s : State} {op : StoreOp} {image : Image} (runs : s.storeOp = some op)
    (work : op.work = .write image) :
    s.saveEnds = (State.emit { s with store := .valid image, storeOp := none } clsMaintReply op.replyTo
      [15, byte op.number, 0]).raise .saveDone := by
  simp only [State.saveEnds, runs, work]
  rfl

theorem State.saveEnds_of_idle {s : State} (idle : s.storeOp = none) : s.saveEnds = s := by
  simp only [State.saveEnds, idle]

/-- An auto-start value that is neither yes nor no is refused (R170, R174). -/
theorem State.exec_save_refused {s : State} {e : Envelope} {auto : Nat} (hears : s.hearsServer e) (setup : s.mode = .setup)
    (idle : s.storeOp = none) (out : 2 ≤ auto) : exec (.save e auto) s = .next (s.answered e 15 4 []) := by
  refine congrArg Host.Outcome.next (State.hear_request_answered 0 0 (.save auto) (st := .range) hears (by rw [setup]; rfl)
    (.inl idle) hears.1.2.2 ?_)
  rw [State.carryOut, State.doSave, if_neg (by omega)]

/-- A SAVE makes its copy of the settings as it starts (R170). -/
theorem State.exec_save_taken {s : State} {e : Envelope} {auto : Nat} (hears : s.hearsServer e) (setup : s.mode = .setup)
    (idle : s.storeOp = none) (fits : auto ≤ 1) :
    exec (.save e auto) s = .next { s with
      store := .started,
      storeOp := some
        { work := .write (s.imageOf (auto == 1)), replyTo := e.src, number := e.number % 256, elapsed := 0 } } := by
  refine congrArg Host.Outcome.next (State.hear_startStore (q := .save auto) hears (by rw [setup]; rfl) idle fun c => ?_)
  rw [State.carryOut, State.doSave, if_pos fits]

end Sys2Proof.Machine
end

section
/-! Start-up from an image of the setting store: the settings it loads, and with auto-start the tours of the enabled routes (R53,
R92, R170 to R172). -/

namespace Sys2Proof.Machine

/-! ## The settings of an image -/

section
variable {s old : State} {auto : Bool}

/-- The part with the settings of an image, before its routes start. -/
def State.loaded (s : State) (image : Image) : State :=
  { s with
    station := some image.station, server := some image.server, slots := mapTable Slot.fresh image.slots,
    routes := mapTable Route.loaded image.routes, lineConfig := image.line, takt := image.line.defaultTakt,
    mask := image.mask, mode := if image.autoStart then .run else .setup }

theorem State.loadImage_eq (s : State) (image : Image) :
    s.loadImage image = if image.autoStart then (s.loaded image).startRoutes else s.loaded image := rfl

theorem State.slot_loaded_imageOf {i : Nat} (hi : i < 512) :
    (s.loaded (old.imageOf auto)).slot i = Slot.fresh (old.slot i).config := by
  have slots : (s.loaded (old.imageOf auto)).slots = mapTable Slot.fresh (mapTable Slot.config old.slots) := rfl
  rw [State.slot, slots, getD_mapTable _ _ _ SlotConfig.blank, if_pos hi,
    getD_mapTable _ _ _ (Slot.fresh SlotConfig.blank), if_pos hi]
  rfl

theorem State.route_loaded_imageOf {r : Nat} (hr : r < 8) :
    (s.loaded (old.imageOf auto)).route r
      = Route.loaded ((old.route r).config.map fun c => (c, (old.route r).stops, (old.route r).enabled)) := by
  have routes : (s.loaded (old.imageOf auto)).routes = mapTable Route.loaded
      (mapTable (fun r => r.config.map fun c => (c, r.stops, r.enabled)) old.routes) := rfl
  rw [State.route, routes, getD_mapTable _ _ _ none, if_pos hr, getD_mapTable _ _ _ Route.blank, if_pos hr]
  rfl

end

/-! ## Routes that build no board -/

/-- A route with no waiting tour whose record allows none stays as the routes start (R62). -/
theorem State.startRoutes_of_no_depth {s : State} {r : Nat} (empty : (s.route r).waiting = [])
    (none : (s.route r).cfg.depth = 0) : s.startRoutes.route r = s.route r := by
  have appended : (s.enabledRoutes.foldl State.appendTours s).route r = s.route r := by
    refine List.foldlRecOn (motive := fun x : State => x.route r = s.route r) _ _ rfl fun x same q _ => ?_
    by_cases hq : r = q
    · subst hq
      have kept : x.appendTours r = x := by
        rw [State.appendTours, same, none]
        split <;> rfl
      rw [kept, same]
    · exact ((x.appendTours_turnsBoard q).others r hq).trans same
  have drained (x : State) (rs : List Nat) (same : x.route r = s.route r) : (x.drain rs).route r = s.route r := by
    have fills := x.drain_fillsTours rs
    have bare : ((x.drain rs).route r).waiting = [] := by simpa [same, empty] using fills.tours r
    rw [fills.record r, bare, same, ← empty]
  refine List.foldlRecOn (motive := fun x : State => x.route r = s.route r) _ _ (drained _ _ appended) fun x same q _ => ?_
  by_cases hq : r = q
  · subst hq
    have kept : x.cutoffIfDue r = x := by
      rw [State.cutoffIfDue, State.cutoff_of_empty (same ▸ empty), ite_self]
    rw [kept, same]
  · exact ((x.cutoffIfDue_turnsBoard q).others r hq).trans same

/-! ## Boards without entries -/

/-- Every waiting tour is empty, and no slot waits for a lamp derivation. -/
structure State.BoardsEmpty (s : State) : Prop where
  entries : ∀ r, ∀ t ∈ (s.route r).waiting, t.entries = []
  settled : s.settled

theorem State.BoardsEmpty.appendTour {s : State} (h : s.BoardsEmpty) (r : Nat) : (s.appendTour r).BoardsEmpty where
  entries q t mem := by
    rw [State.appendTour, State.route_modRoute] at mem
    split at mem
    · rcases List.mem_append.mp mem with old | new
      · exact h.entries r t old
      · rw [List.mem_singleton.mp new, Tour.appended]
    · exact h.entries q t mem
  settled := h.settled

theorem State.BoardsEmpty.appendTours {s : State} (h : s.BoardsEmpty) (r : Nat) : (s.appendTours r).BoardsEmpty := by
  have appended (n : Nat) {x : State} (hx : x.BoardsEmpty) : (State.appendUpTo r n x).BoardsEmpty := by
    induction n generalizing x with
    | zero => exact hx
    | succ n ih =>
      unfold State.appendUpTo
      split
      · exact ih (hx.appendTour r)
      · exact hx
  unfold State.appendTours
  split
  · exact appended _ h
  · exact h

/-- The cutoff of an empty head marks no entry, so that it reports no slot (R19, R61). -/
theorem State.BoardsEmpty.cutoff {s : State} (h : s.BoardsEmpty) (r : Nat) : (s.cutoff r).BoardsEmpty where
  entries q t mem := by
    rw [State.route_cutoff, State.route_modHead] at mem
    split at mem
    · cases hw : (s.route r).waiting with
      | nil => simp [hw] at mem
      | cons head rest =>
        have empty := fun t mem => h.entries r t (hw ▸ mem)
        simp only [hw, List.modifyHead_cons, List.mem_cons] at mem
        rcases mem with rfl | behind
        · exact Tour.passesCutoff_empty (empty head (by simp)) _ _
        · exact empty t (by simp [behind])
    · exact h.entries q t mem
  settled := by
    cases hw : (s.route r).waiting with
    | nil =>
      rw [State.cutoff_of_empty hw]
      exact h.settled
    | cons head rest =>
      have empty : head.entries = [] := h.entries r head (by simp [hw])
      have timed : (s.headTimed r head).settled := by
        rw [State.headTimed, Tour.atCutoff_eq, empty, List.map_nil, State.noteMarks_nil]
        exact h.settled
      by_cases held : head.held = true
      · rw [State.cutoff_of_held hw held]
        exact h.settled
      · have free : head.held = false := by simpa using held
        by_cases planned : head.state = .planned
        · rw [State.cutoff_of_planned hw free planned, State.publish_eq, State.emits_eq]
          exact timed
        · rw [State.cutoff_of_frozen hw free planned]
          exact timed

theorem State.BoardsEmpty.cutoffIfDue {s : State} (h : s.BoardsEmpty) (r : Nat) : (s.cutoffIfDue r).BoardsEmpty := by
  unfold State.cutoffIfDue
  split
  · exact h.cutoff r
  · exact h

/-- The routes start on empty boards, with an empty backlog, and report no slot. -/
theorem State.BoardsEmpty.startRoutes {s : State} (h : s.BoardsEmpty) (none : s.backlog = []) :
    s.startRoutes.BoardsEmpty := by
  have appended : (s.enabledRoutes.foldl State.appendTours s).BoardsEmpty :=
    List.foldlRecOn (motive := State.BoardsEmpty) _ _ h fun _ hx q _ => hx.appendTours q
  have drained : (s.enabledRoutes.foldl State.appendTours s).drain s.enabledRoutes
      = s.enabledRoutes.foldl State.appendTours s := by
    have backlog : (s.enabledRoutes.foldl State.appendTours s).backlog = [] := by rw [State.foldl_appendTours_eq, none]
    rw [State.drain, backlog]
    rfl
  unfold State.startRoutes
  dsimp only
  rw [drained]
  exact List.foldlRecOn (motive := State.BoardsEmpty) _ _ appended fun _ hx q _ => hx.cutoffIfDue q

/-! ## The loaded part -/

section
variable {s s0 old : State} {auto : Bool} {cause : ResetCause}

/-- The part as a reset of `s` leaves it, when start-up begins. -/
def State.readyToStart (s s0 : State) (cause : ResetCause) : Prop :=
  s0 = { State.reset with
    serial := s.serial, cause := cause, storeInterrupted := s0.storeInterrupted, store := s.store, draws := s.draws,
    pending := s.pending }

/-- A route of a loaded part has no waiting tour. -/
theorem Route.loaded_waiting (x : Option (RouteConfig × Vector StopEntry 24 × Bool)) : (Route.loaded x).waiting = [] := by
  cases x <;> rfl

theorem State.route_loaded_waiting (s0 : State) (image : Image) (r : Nat) : ((s0.loaded image).route r).waiting = [] := by
  have routes : (s0.loaded image).routes = mapTable Route.loaded image.routes := rfl
  rw [State.route, routes, getD_mapTable _ _ _ none]
  split
  · exact Route.loaded_waiting _
  · rfl

/-- What start-up from an image changes of a part at its reset values (R172). -/
theorem State.loadImage_frame (ready : s.readyToStart s0 cause) (image : Image) :
    s0.loadImage image = { s0.loaded image with
      routes := (s0.loadImage image).routes, flags := (s0.loadImage image).flags,
      forwardQueue := (s0.loadImage image).forwardQueue, emitQueue := (s0.loadImage image).emitQueue,
      ringOut := (s0.loadImage image).ringOut, burst := (s0.loadImage image).burst } := by
  rw [State.loadImage_eq]
  split
  · have backlog : (s0.loaded image).backlog = [] := by rw [ready]; rfl
    have bare : (s0.loaded image).BoardsEmpty :=
      ⟨fun r t mem => by simp [State.route_loaded_waiting] at mem, by rw [ready]; rfl⟩
    have reported : (s0.loaded image).startRoutes.reported = [] := (bare.startRoutes backlog).settled
    have drained : (s0.loaded image).startRoutes.backlog = [] := by
      simpa [backlog] using (s0.loaded image).startRoutes_backlog
    rw [State.startRoutes_eq]
    simp only [reported, drained]
    rw [ready]
    rfl
  · rfl

/-- A route that builds no board stands as the image gives it. -/
theorem State.route_loadImage_of_no_tours {image : Image} {r : Nat}
    (none : image.autoStart = true → ((s0.loaded image).route r).enabled = true → ((s0.loaded image).route r).cfg.depth = 0) :
    (s0.loadImage image).route r = (s0.loaded image).route r := by
  rw [State.loadImage_eq]
  split
  · rename_i starts
    cases on : ((s0.loaded image).route r).enabled with
    | false => exact State.startRoutes_other _ on
    | true => exact State.startRoutes_of_no_depth (s0.route_loaded_waiting image r) (none starts on)
  · rfl

/-- A configured route of an image after start-up: its settings, and with auto-start its tours where it is enabled. -/
theorem State.route_loadImage_configured (ready : s.readyToStart s0 cause) {r : Nat} (hr : r < 8) {c : RouteConfig}
    (configured : (old.route r).config = some c) {t : State} (started : s0.loadImage (old.imageOf auto) = t) :
    t.route r = { config := some c, stops := (old.route r).stops, enabled := (old.route r).enabled, count := c.period,
                  nextTour := (t.route r).nextTour, waiting := (t.route r).waiting, running := none } ∧
    let depth := if auto ∧ (old.route r).enabled then c.depth else 0
    (depth = 0 → (t.route r).nextTour = 1) ∧
    (t.route r).waiting.map Tour.plannedDeparture
      = (List.range depth).map (fun k => min (t.unitTicks r (c.period + k * c.period)) 4294967295) ∧
    (t.route r).waiting.map Tour.state
      = (List.range depth).map fun k => if k = 0 ∧ c.period ≤ c.cutoffLead then .frozen else .planned := by
  have loaded : (s0.loaded (old.imageOf auto)).route r
      = { config := some c, stops := (old.route r).stops, enabled := (old.route r).enabled, count := c.period,
          nextTour := 1, waiting := [], running := none } := by
    rw [State.route_loaded_imageOf hr, configured]
    rfl
  have cfg : ((s0.loaded (old.imageOf auto)).route r).cfg = c := by rw [loaded]; rfl
  have frame := started ▸ State.loadImage_frame ready (old.imageOf auto)
  by_cases tours : auto = true ∧ (old.route r).enabled = true ∧ c.depth ≠ 0
  · obtain ⟨starts, on, deep⟩ := tours
    have run : (s0.loaded (old.imageOf auto)).mode = .run := by rw [starts]; rfl
    obtain ⟨departures, states, record⟩ := State.startRoutes_built hr run (by rw [loaded]; exact on) (by rw [loaded])
    have builds : (s0.loaded (old.imageOf auto)).startRoutes = t := by
      rw [← started, State.loadImage_eq, if_pos (by exact starts)]
    rw [builds] at departures states record
    have ticks (n : Nat) : (s0.loaded (old.imageOf auto)).unitTicks r n = t.unitTicks r n := by
      rw [State.unitTicks, State.unitTicks, record.cfg, frame]
    have now : (s0.loaded (old.imageOf auto)).pt = 0 := by rw [ready]; rfl
    rw [funext (State.appendedAt_eq _ r), cfg] at departures
    simp only [ticks, now, Nat.zero_add] at departures
    rw [cfg] at states
    rw [State.KeepsRecord] at record
    rw [loaded] at departures states record
    rw [if_pos ⟨starts, on⟩]
    exact ⟨record, fun no => absurd no deep, departures, states⟩
  · have depth : (if auto ∧ (old.route r).enabled then c.depth else 0) = 0 := by
      split
      · rename_i builds
        exact Decidable.byContradiction fun deep => tours ⟨builds.1, builds.2, deep⟩
      · rfl
    have same : t.route r = (s0.loaded (old.imageOf auto)).route r := by
      rw [← started]
      refine State.route_loadImage_of_no_tours fun starts on => ?_
      rw [loaded] at on
      rw [cfg]
      exact Decidable.byContradiction fun deep => tours ⟨starts, on, deep⟩
    rw [depth, same, loaded]
    exact ⟨rfl, fun _ => rfl, rfl, rfl⟩

/-- Start-up from the image of a commissioned part loads its settings, and with auto-start builds the tours of its enabled
routes (R3, R39, R53, R97, R172). -/
theorem State.loadImage_startedFrom (ready : s.readyToStart s0 cause) (station : old.station.isSome)
    (server : old.server.isSome) : s.startedFrom (s0.loadImage (old.imageOf auto)) old auto cause := by
  have frame := State.loadImage_frame ready (old.imageOf auto)
  have given {o : Option Nat} (h : o.isSome) : some (o.getD 0) = o := by
    obtain ⟨n, rfl⟩ := Option.isSome_iff_exists.mp h
    rfl
  refine ⟨?_, ?_, fun i hi => ?_, fun r hr no => ?_, fun r hr c configured => ?_, ?_⟩
  · rw [frame]
    exact given station
  · rw [frame]
    exact given server
  · rw [frame]
    exact State.slot_loaded_imageOf (s := s0) hi
  · have loaded : (s0.loaded (old.imageOf auto)).route r = Route.blank := by
      rw [State.route_loaded_imageOf hr, no]
      rfl
    rw [State.route_loadImage_of_no_tours (by simp [loaded, Route.blank]), loaded]
  · exact State.route_loadImage_configured ready hr configured rfl
  · rw [frame, ready]
    rfl

/-- A part at its reset values whose store holds an image starts up from it (R172). -/
theorem State.startUp_startedFrom (ready : s.readyToStart s0 cause) (station : old.station.isSome)
    (server : old.server.isSome) (stored : s.store = .valid (old.imageOf auto)) :
    s.startedFrom s0.startUp old auto cause ∧ s0.startUp.storeInterrupted = s0.storeInterrupted := by
  have found : s0.store = .valid (old.imageOf auto) := by
    rw [ready]
    exact stored
  have loads : s0.startUp = s0.loadImage (old.imageOf auto) := by rw [State.startUp, found]
  rw [loads]
  refine ⟨State.loadImage_startedFrom ready station server, ?_⟩
  rw [State.loadImage_frame ready]
  rfl

end

/-- Settles O52: a SAVE from its request to its end, and each reset as the start-up from the image it finds. -/
theorem saveKeepsSettings : Obligations.SaveKeepsSettings := by
  intro e auto op image s old
  refine ⟨fun hears setup idle => ⟨State.exec_save_refused hears setup idle, State.exec_save_taken hears setup idle⟩,
    fun runs work => congrArg Host.Outcome.next (State.saveEnds_of_write runs work),
    fun idle => congrArg Host.Outcome.next (State.saveEnds_of_idle idle),
    fun starts awake station server stored => ⟨?_, ?_, fun leaves => ?_⟩⟩
  · have ready : s.readyToStart { s.cleared .power with storeInterrupted := false } .power := by
      simp [State.readyToStart, State.cleared, awake, State.reset]
    have resets : s.powerOn = State.startUp { s.cleared .power with storeInterrupted := false } :=
      if_neg (by simp [awake])
    exact ⟨_, congrArg Host.Outcome.next resets, State.startUp_startedFrom ready station server stored⟩
  · have ready : s.readyToStart { s.cleared .pin with resetLow := false } .pin := rfl
    have falls : s.pinLow = { s.cleared .pin with resetLow := true } := if_neg (by simp [awake])
    exact ⟨_, _, congrArg Host.Outcome.next falls, rfl, State.startUp_startedFrom ready station server stored⟩
  · have ready : s.readyToStart (s.cleared .command) .command := by
      simp [State.readyToStart, State.cleared, awake, State.reset]
    exact ⟨_, congrArg Host.Outcome.next (if_pos leaves), State.startUp_startedFrom ready station server stored⟩

end Sys2Proof.Machine
end

section
/-! The unit serial and the queue of waiting commands: what each block does leaves both (R164; log entry 9). -/

namespace Sys2Proof.Machine

/-- The unit serial and the queue of waiting commands are the same. -/
def State.keepsUnit (s t : State) : Prop := t.serial = s.serial ∧ t.pending = s.pending

theorem State.keepsUnit.refl (s : State) : s.keepsUnit s := ⟨rfl, rfl⟩

theorem State.keepsUnit.trans {s t u : State} (h : s.keepsUnit t) (h' : t.keepsUnit u) : s.keepsUnit u :=
  ⟨h'.1.trans h.1, h'.2.trans h.2⟩

theorem State.keepsUnit.foldl {α : Type} {f : State → α → State} (keeps : ∀ x a, State.keepsUnit x (f x a)) (l : List α)
    (s : State) : s.keepsUnit (l.foldl f s) :=
  List.foldlRecOn (motive := s.keepsUnit) l f (.refl s) fun x h a _ => h.trans (keeps x a)

/-! ## Changes of a table -/

theorem State.modSlot_keepsUnit (s : State) (i : Nat) (f : Slot → Slot) : s.keepsUnit (s.modSlot i f) := ⟨rfl, rfl⟩

theorem State.modRoute_keepsUnit (s : State) (r : Nat) (f : Route → Route) : s.keepsUnit (s.modRoute r f) := ⟨rfl, rfl⟩

theorem State.modHead_keepsUnit (s : State) (r : Nat) (f : Tour → Tour) : s.keepsUnit (s.modHead r f) := ⟨rfl, rfl⟩

theorem State.modRunning_keepsUnit (s : State) (r : Nat) (f : Tour → Tour) : s.keepsUnit (s.modRunning r f) := ⟨rfl, rfl⟩

theorem State.modTrain_keepsUnit (s : State) (r : Nat) (f : TrainUnit → TrainUnit) : s.keepsUnit (s.modTrain r f) :=
  ⟨rfl, rfl⟩

theorem State.setRecord_keepsUnit (s : State) (k : Nat) (x : Option Record) : s.keepsUnit (s.setRecord k x) := ⟨rfl, rfl⟩

theorem State.insertBacklog_keepsUnit (s : State) (o : Order) : s.keepsUnit (s.insertBacklog o) := ⟨rfl, rfl⟩

theorem State.reportAll_keepsUnit (s : State) (is : List Nat) : s.keepsUnit (s.reportAll is) := ⟨rfl, rfl⟩

/-! ## Link Unit -/

theorem State.emit_keepsUnit (s : State) (cls dst : Nat) (p : List Byte) : s.keepsUnit (s.emit cls dst p) :=
  ⟨s.emit_serial cls dst p, s.emit_pending cls dst p⟩

theorem State.raise_keepsUnit (s : State) (a : Alert) : s.keepsUnit (s.raise a) := ⟨s.raise_serial a, s.raise_pending a⟩

theorem State.forward_keepsUnit (s : State) (f : Frame) : s.keepsUnit (s.forward f) :=
  ⟨s.forward_serial f, s.forward_pending f⟩

theorem State.settleLamps_keepsUnit (s : State) : s.keepsUnit s.settleLamps :=
  ⟨s.settleLamps_serial, s.settleLamps_pending⟩

/-! ## Slot Unit and Planner -/

theorem State.countsChanged_keepsUnit (s : State) (i : Nat) : s.keepsUnit (s.countsChanged i) := by
  rw [State.countsChanged_eq]
  exact ⟨rfl, rfl⟩

theorem State.credit_keepsUnit (s : State) (i : Nat) : s.keepsUnit (s.credit i) := by
  rw [State.credit_eq]
  exact ⟨rfl, rfl⟩

theorem State.place_keepsUnit (s : State) (o : Order) (k : Nat) : s.keepsUnit (s.place o k) := by
  rw [State.place_eq]
  exact ⟨rfl, rfl⟩

theorem State.drain_keepsUnit (s : State) (rs : List Nat) : s.keepsUnit (s.drain rs) := by
  rw [State.drain_eq]
  exact ⟨rfl, rfl⟩

theorem State.rollbackOrDrop_keepsUnit (s : State) (origin : Origin) (e : Entry) :
    s.keepsUnit (s.rollbackOrDrop origin e) := by
  rw [State.rollbackOrDrop_eq]
  exact ⟨rfl, rfl⟩

theorem State.advanceNames_keepsUnit (s : State) : s.keepsUnit s.advanceNames := ⟨rfl, rfl⟩

theorem State.take_keepsUnit {s t : State} {i due : Nat} {urgent : Bool} {origin : Origin}
    (taken : s.take i due urgent origin = some t) : s.keepsUnit t := by
  unfold State.take at taken
  dsimp only at taken
  split at taken
  · obtain rfl := Option.some.inj taken
    exact s.advanceNames_keepsUnit.trans (State.place_keepsUnit _ _ _)
  · split at taken
    · obtain rfl := Option.some.inj taken
      exact s.advanceNames_keepsUnit.trans (State.insertBacklog_keepsUnit _ _)
    · exact absurd taken (by simp)

/-- An order that is raised is taken, or refused with BACKLOG_FULL and perhaps a lamp (R14, R15). -/
theorem State.raiseOrder_keepsUnit (s : State) (i pieces : Nat) (origin : Origin) :
    s.keepsUnit (s.raiseOrder i pieces origin).1 := by
  unfold State.raiseOrder
  dsimp only
  split
  · rename_i taken
    exact ((State.take_keepsUnit taken).trans (State.modSlot_keepsUnit _ _ _)).trans (State.countsChanged_keepsUnit _ i)
  · have refused := (s.modSlot_keepsUnit i fun sl => { sl with notTaken := true }).trans (State.raise_keepsUnit _ .backlogFull)
    dsimp only
    split
    · exact refused.trans (State.emit_keepsUnit _ _ _ _)
    · exact refused

theorem State.raiseOrders_keepsUnit (i : Nat) (origin : Origin) (n pieces : Nat) (s : State) :
    s.keepsUnit (State.raiseOrders i origin n pieces s) := by
  induction n generalizing pieces s with
  | zero => exact .refl s
  | succ n ih =>
    have first := s.raiseOrder_keepsUnit i pieces origin
    unfold State.raiseOrders
    split <;> rename_i raised <;> rw [raised] at first
    · exact first.trans (ih _ _)
    · exact first

theorem State.raiseToReorder_keepsUnit (i n pieces : Nat) (s : State) :
    s.keepsUnit (State.raiseToReorder i n pieces s) := by
  induction n generalizing pieces s with
  | zero => exact .refl s
  | succ n ih =>
    have first := s.raiseOrder_keepsUnit i pieces .count
    unfold State.raiseToReorder
    dsimp only
    split
    · split <;> rename_i raised <;> rw [raised] at first
      · exact first.trans (ih _ _)
      · exact first
    · exact .refl s

/-! ## Pulls -/

theorem State.setBins_keepsUnit (s : State) (i bins : Nat) : s.keepsUnit (s.setBins i bins) := by
  unfold State.setBins
  dsimp only
  split
  · exact s.modSlot_keepsUnit i _
  · exact (s.modSlot_keepsUnit i _).trans (State.countsChanged_keepsUnit _ i)

theorem State.takeBinEmpty_keepsUnit (s : State) (i : Nat) : s.keepsUnit (s.takeBinEmpty i) := by
  have bins := s.setBins_keepsUnit i ((s.slot i).fullBins - 1)
  unfold State.takeBinEmpty
  dsimp only
  split
  · exact bins.trans (State.raiseOrder_keepsUnit _ _ _ _)
  · split
    · exact bins.trans (State.emit_keepsUnit _ _ _ _)
    · exact bins

/-- A withdrawn order falls out of its slot's counts (R11). -/
theorem State.orderWithdrawn_keepsUnit (s : State) (i : Nat) : s.keepsUnit (s.orderWithdrawn i) :=
  (s.modSlot_keepsUnit i _).trans (State.countsChanged_keepsUnit _ i)

theorem State.takeCancel_keepsUnit (s : State) (i : Nat) : s.keepsUnit (s.takeCancel i) := by
  have order (o : Order) : s.keepsUnit ((s.withdrawOrder o).orderWithdrawn i)  :=
    State.keepsUnit.trans (t := s.withdrawOrder o) ⟨rfl, rfl⟩ (State.orderWithdrawn_keepsUnit _ i)
  have entry (r : Nat) (e : Entry) : s.keepsUnit ((s.withdrawEntry r e).orderWithdrawn i)  :=
    (s.modRoute_keepsUnit r _).trans (State.orderWithdrawn_keepsUnit _ i)
  unfold State.takeCancel
  dsimp only
  split
  · exact State.emit_keepsUnit _ _ _ _
  · exact order _
  · exact entry _ _
  · split
    · exact entry _ _
    · exact order _

theorem State.takePull_keepsUnit (s : State) (i : Nat) (op : PullOp) : s.keepsUnit (s.takePull i op) := by
  cases op with
  | binEmpty => exact s.takeBinEmpty_keepsUnit i
  | binCount n => exact (s.setBins_keepsUnit i _).trans (State.raiseOrders_keepsUnit _ _ _ _ _)
  | cancel => exact s.takeCancel_keepsUnit i
  | other => exact .refl s

/-! ## The line -/

theorem State.consume_keepsUnit (s : State) (i : Nat) : s.keepsUnit (s.consume i) :=
  ((s.modSlot_keepsUnit i _).trans (State.countsChanged_keepsUnit _ i)).trans (State.raiseToReorder_keepsUnit _ _ _ _)

theorem State.countDown_keepsUnit (s : State) (r : Nat) : s.keepsUnit (s.countDown r) := by
  rw [State.countDown_eq]
  exact ⟨rfl, rfl⟩

theorem State.consumeAll_keepsUnit (s : State) (station model : Nat) : s.keepsUnit (s.consumeAll station model) := by
  unfold State.consumeAll
  refine State.keepsUnit.foldl (fun x i => ?_) _ s
  split
  · exact x.consume_keepsUnit i
  · exact .refl x

theorem State.pacingCount_keepsUnit (s : State) : s.keepsUnit s.pacingCount := by
  unfold State.pacingCount
  refine State.keepsUnit.foldl (fun x r => ?_) _ s
  split
  · exact x.countDown_keepsUnit r
  · exact .refl x

theorem State.takeVehicle_keepsUnit (s : State) (station model sequence : Nat) :
    s.keepsUnit (s.takeVehicle station model sequence) := by
  have consumed (echo : Vector (Option Nat) 64) :
      s.keepsUnit (State.consumeAll { s with echo := echo } station model) :=
    State.consumeAll_keepsUnit { s with echo := echo } station model
  unfold State.takeVehicle
  dsimp only
  split
  · exact .refl s
  · split
    · exact .refl s
    · split
      · exact (consumed _).trans (State.pacingCount_keepsUnit _)
      · exact consumed _

theorem State.takeReport_keepsUnit (s : State) (report : Option VehicleReport) : s.keepsUnit (s.takeReport report) := by
  cases report with
  | none => exact .refl s
  | some v => exact s.takeVehicle_keepsUnit _ _ _

theorem State.shift_keepsUnit (s : State) (d : Nat) : s.keepsUnit (s.shift d) := by
  rw [State.shift_eq]
  exact ⟨rfl, rfl⟩

theorem State.lineRuns_keepsUnit (s : State) (takt : Nat) : s.keepsUnit (s.lineRuns takt) := by
  unfold State.lineRuns
  dsimp only
  split
  · rename_i since _
    have shifted := State.shift_keepsUnit { s with takt := clampTakt takt, taktReported := true } (s.pt - since)
    split
    · exact ⟨rfl, rfl⟩
    · exact ⟨shifted.1, shifted.2⟩
  · exact ⟨rfl, rfl⟩

theorem State.takeLine_keepsUnit (s : State) (op : LineOp) : s.keepsUnit (s.takeLine op) := by
  cases op with
  | running takt => exact s.lineRuns_keepsUnit takt
  | stopped =>
    unfold State.takeLine State.lineStops
    dsimp only
    split <;> exact ⟨rfl, rfl⟩
  | other => exact .refl s

/-! ## Boards -/

theorem State.cutoff_keepsUnit (s : State) (r : Nat) : s.keepsUnit (s.cutoff r) := by
  rw [State.cutoff_eq]
  exact ⟨rfl, rfl⟩

theorem State.due_keepsUnit (s : State) (r : Nat) : s.keepsUnit (s.due r) := by
  rw [State.due_eq]
  exact ⟨rfl, rfl⟩

theorem State.checkHeld_keepsUnit (s : State) (r : Nat) : s.keepsUnit (s.checkHeld r) := by
  rw [State.checkHeld_eq]
  exact ⟨rfl, rfl⟩

theorem State.dissolve_keepsUnit (s : State) (origin : Origin) (r : Nat) : s.keepsUnit (s.dissolve origin r) := by
  rw [State.dissolve_eq]
  exact ⟨rfl, rfl⟩

theorem State.startRoutes_keepsUnit (s : State) : s.keepsUnit s.startRoutes := by
  rw [State.startRoutes_eq]
  exact ⟨rfl, rfl⟩

theorem State.takePickShort_keepsUnit (s : State) (r tour number : Nat) : s.keepsUnit (s.takePickShort r tour number) := by
  have rejected (reason : Reason) : s.keepsUnit (s.rejectPick r tour kindPickShort reason) := State.emit_keepsUnit _ _ _ _
  unfold State.takePickShort
  split
  · exact rejected _
  · split
    · exact rejected _
    · split
      · exact rejected _
      · have short (f : Tour → Tour) := (s.modHead_keepsUnit r f).trans (State.raise_keepsUnit _ .pickShort)
        exact ((short _).trans (State.rollbackOrDrop_keepsUnit _ _ _)).trans (State.drain_keepsUnit _ _)

theorem State.takePickOp_keepsUnit (s : State) (r tour : Nat) (op : PickOp) : s.keepsUnit (s.takePickOp r tour op) := by
  have rejected (kind : Nat) (reason : Reason) : s.keepsUnit (s.rejectPick r tour kind reason) :=
    State.emit_keepsUnit _ _ _ _
  cases op with
  | start =>
    unfold State.takePickOp State.takePickStart
    dsimp only
    split
    · exact rejected _ _
    · split <;> exact ⟨rfl, rfl⟩
  | done =>
    unfold State.takePickOp State.takePickDone
    dsimp only
    split
    · exact rejected _ _
    · split
      · exact .refl s
      · exact (s.modHead_keepsUnit r _).trans (State.checkHeld_keepsUnit _ r)
  | short e => exact s.takePickShort_keepsUnit r tour e
  | other kind =>
    unfold State.takePickOp State.takePickOther
    dsimp only
    split
    · exact rejected _ _
    · exact .refl s

theorem State.takePick_keepsUnit (s : State) (r : Nat) (body : Option (Nat × PickOp)) : s.keepsUnit (s.takePick r body) := by
  cases body with
  | none => exact .refl s
  | some x => exact s.takePickOp_keepsUnit r x.1 x.2

/-! ## Interrupted tour records -/

theorem State.storeTour_keepsUnit (s : State) (t : Tour) (r train : Nat) (cause : Cause) :
    s.keepsUnit (s.storeTour t r train cause) := by
  have dissolved : s.keepsUnit (s.autoDissolve t) :=
    (State.keepsUnit.foldl (fun x e => x.rollbackOrDrop_keepsUnit .dissolved e) _ s).trans (State.raise_keepsUnit _ _)
  unfold State.storeTour
  split
  · exact .refl s
  · split
    · exact dissolved
    · split
      · exact dissolved
      · exact ⟨rfl, rfl⟩

theorem State.settleEntry_keepsUnit (s : State) (k : Nat) (kept : Record) (p : Pending) :
    s.keepsUnit (s.settleEntry k kept p) := by
  have credited (x : Option Record) := (s.setRecord_keepsUnit k x).trans (State.credit_keepsUnit _ p.slot)
  unfold State.settleEntry
  dsimp only
  split
  · exact (credited _).trans (State.raise_keepsUnit _ _)
  · exact credited _

theorem State.resolveRecord_keepsUnit (s : State) (k disposition : Nat) : s.keepsUnit (s.resolveRecord k disposition) := by
  unfold State.resolveRecord
  split
  · exact .refl s
  · split
    · rw [State.dissolveRecord_eq]
      exact ⟨rfl, rfl⟩
    · rw [State.resumeRecord_eq]
      exact ⟨rfl, rfl⟩

/-! ## Trains -/

theorem State.rejectTrain_keepsUnit (s : State) (r train kind : Nat) (reason : Reason) :
    s.keepsUnit (s.rejectTrain r train kind reason) := State.emit_keepsUnit _ _ _ _

theorem State.rejectDelivered_keepsUnit (s : State) (r train tour entry : Nat) (reason : Reason) :
    s.keepsUnit (s.rejectDelivered r train tour entry reason) := State.emit_keepsUnit _ _ _ _

theorem State.takeCheckIn_keepsUnit (s : State) (r train capacity : Nat) : s.keepsUnit (s.takeCheckIn r train capacity) := by
  unfold State.takeCheckIn
  split
  · exact s.rejectTrain_keepsUnit _ _ _ _
  · exact (s.modTrain_keepsUnit r _).trans (State.emit_keepsUnit _ _ _ _)

theorem State.bind_keepsUnit (s : State) (r train capacity : Nat) : s.keepsUnit (s.bind r train capacity) :=
  ((s.modTrain_keepsUnit r _).trans (State.drain_keepsUnit _ _)).trans (State.checkHeld_keepsUnit _ r)

theorem State.takeAccept_keepsUnit (s : State) (r train offer : Nat) : s.keepsUnit (s.takeAccept r train offer) := by
  have rejected := s.rejectTrain_keepsUnit r train kindCheckAccept .offer
  unfold State.takeAccept
  split
  · split
    · split
      · exact s.bind_keepsUnit _ _ _
      · exact rejected
    · split
      · exact .refl s
      · exact rejected
    · exact rejected
  · exact rejected

theorem State.takeSignOff_keepsUnit (s : State) (r train : Nat) : s.keepsUnit (s.takeSignOff r train) := by
  have rejected := s.rejectTrain_keepsUnit r train kindSignOff
  have freed : s.keepsUnit (s.unbind r) := ⟨rfl, rfl⟩
  unfold State.takeSignOff
  split
  · split
    · split
      · exact freed
      · exact rejected _
    · split
      · exact freed
      · exact rejected _
    · exact rejected _
    · exact rejected _
  · exact rejected _

theorem State.presume_keepsUnit (s : State) (r : Nat) (t : Tour) (pick : Entry → Bool) :
    s.keepsUnit (s.presume r t pick) := by
  rw [State.presume_eq]
  exact ⟨rfl, rfl⟩

theorem State.passStop_keepsUnit (s : State) (r train : Nat) (t : Tour) (j : Nat) :
    s.keepsUnit (s.passStop r train t j) := by
  have listed (x : State) (stop : Nat) (es : List Entry) : x.keepsUnit (x.sendStopList r train t.number stop es) :=
    State.keepsUnit.foldl (fun y p => y.emit_keepsUnit _ _ p) _ x
  have passed (f : TrainUnit → TrainUnit) (g : Tour → Tour) (is : List Nat) :=
    (((s.presume_keepsUnit r t t.awaits).trans (State.modTrain_keepsUnit _ r f)).trans
      (State.modRunning_keepsUnit _ r g)).trans (State.reportAll_keepsUnit _ is)
  unfold State.passStop
  dsimp only
  split
  · exact (passed _ _ _).trans (listed _ _ _)
  · exact ((passed _ _ _).trans (listed _ _ _)).trans (State.modTrain_keepsUnit _ r _)

theorem State.takePass_keepsUnit (s : State) (r train marker : Nat) : s.keepsUnit (s.takePass r train marker) := by
  unfold State.takePass
  split
  · exact s.rejectTrain_keepsUnit _ _ _ _
  · split
    · exact s.rejectTrain_keepsUnit _ _ _ _
    · split
      · exact s.raise_keepsUnit _
      · split
        · exact s.passStop_keepsUnit _ _ _ _
        · exact s.raise_keepsUnit _

theorem State.confirm_keepsUnit (s : State) (r : Nat) (t : Tour) (train tour number : Nat) :
    s.keepsUnit (s.confirm r t train tour number) := by
  have rejected := s.rejectDelivered_keepsUnit r train tour number .duplicate
  unfold State.confirm
  split
  · exact rejected
  · split
    · exact rejected
    · rename_i e _ _ st credited _
      dsimp only
      have settled (f : Tour → Tour) :
          s.keepsUnit (if credited = true then (s.modRunning r f).credit e.slot else s.modRunning r f) := by
        split
        · exact (s.modRunning_keepsUnit r f).trans (State.credit_keepsUnit _ _)
        · exact s.modRunning_keepsUnit r f
      split
      · exact (settled _).trans (State.modTrain_keepsUnit _ r _)
      · exact settled _

theorem State.takeDelivered_keepsUnit (s : State) (r train tour number : Nat) :
    s.keepsUnit (s.takeDelivered r train tour number) := by
  have rejected := s.rejectDelivered_keepsUnit r train tour number
  unfold State.takeDelivered
  split
  · exact rejected _
  · split
    · split
      · exact s.confirm_keepsUnit _ _ _ _ _
      · exact rejected _
    · split
      · split
        · exact .refl s
        · split
          · exact rejected _
          · split
            · exact s.settleEntry_keepsUnit _ _ _
            · exact rejected _
      · exact rejected _

theorem State.takeReturn_keepsUnit (s : State) (r train : Nat) : s.keepsUnit (s.takeReturn r train) := by
  have ended (t : Tour) : s.keepsUnit (s.endTour r t) := by
    rw [State.endTour_eq, State.ordersEnded_eq]
    exact ⟨rfl, rfl⟩
  unfold State.takeReturn
  split
  · exact s.rejectTrain_keepsUnit _ _ _ _
  · split
    · exact s.rejectTrain_keepsUnit _ _ _ _
    · exact (ended _).trans (State.checkHeld_keepsUnit _ r)

theorem State.interrupt_keepsUnit (s : State) (r : Nat) (t : Tour) (cause : Cause) : s.keepsUnit (s.interrupt r t cause) :=
  ((((s.modTrain_keepsUnit r _).trans (State.storeTour_keepsUnit _ t r _ cause)).trans
    (State.modRoute_keepsUnit _ r _)).trans (State.modTrain_keepsUnit _ r _)).trans (State.raise_keepsUnit _ _)

theorem State.takeFault_keepsUnit (s : State) (r train code : Nat) : s.keepsUnit (s.takeFault r train code) := by
  unfold State.takeFault
  split
  · exact s.rejectTrain_keepsUnit _ _ _ _
  · split
    · exact ⟨rfl, rfl⟩
    · exact s.interrupt_keepsUnit _ _ _

theorem State.takeTrainOp_keepsUnit (s : State) (r train : Nat) (op : TrainOp) : s.keepsUnit (s.takeTrainOp r train op) := by
  cases op with
  | checkIn c => exact s.takeCheckIn_keepsUnit r train c
  | checkAccept o => exact s.takeAccept_keepsUnit r train o
  | signOff => exact s.takeSignOff_keepsUnit r train
  | pass m => exact s.takePass_keepsUnit r train m
  | delivered t e => exact s.takeDelivered_keepsUnit r train t e
  | trainReturn => exact s.takeReturn_keepsUnit r train
  | trainFault c => exact s.takeFault_keepsUnit r train c

theorem State.heard_keepsUnit (s : State) (train : Nat) : s.keepsUnit (s.heard train) := by
  unfold State.heard
  refine State.keepsUnit.foldl (fun x r => ?_) _ s
  split
  · split <;> exact ⟨rfl, rfl⟩
  · exact .refl x

theorem State.hears_keepsUnit (s : State) (r train : Nat) (op : TrainOp) : s.keepsUnit (s.hears r train op) := by
  unfold State.hears
  split
  · split
    · exact .refl s
    · exact s.heard_keepsUnit train
  · exact s.heard_keepsUnit train

theorem State.takeTrainUp_keepsUnit (s : State) (r : Nat) (body : Option (Nat × TrainOp)) :
    s.keepsUnit (s.takeTrainUp r body) := by
  unfold State.takeTrainUp
  split
  · split
    · exact .refl s
    · exact (s.hears_keepsUnit _ _ _).trans (State.takeTrainOp_keepsUnit _ _ _ _)
  · exact .refl s

theorem State.confirmationExpires_keepsUnit (s : State) (r : Nat) : s.keepsUnit (s.confirmationExpires r) := by
  unfold State.confirmationExpires
  split
  · exact .refl s
  · split
    · exact (s.modTrain_keepsUnit r _).trans (State.presume_keepsUnit _ r _ _)
    · exact .refl s

theorem State.silenceExpires_keepsUnit (s : State) (r : Nat) : s.keepsUnit (s.silenceExpires r) := by
  unfold State.silenceExpires
  split
  · exact .refl s
  · split
    · exact s.interrupt_keepsUnit _ _ _
    · exact .refl s

/-! ## The store and the resets -/

theorem State.startUp_keepsUnit (s : State) : s.keepsUnit s.startUp := by
  unfold State.startUp
  split
  · exact ⟨rfl, rfl⟩
  · rw [State.loadImage_eq]
    split
    · exact State.startRoutes_keepsUnit _
    · exact ⟨rfl, rfl⟩
  · exact .refl s

theorem State.commandReset_keepsUnit (s : State) : s.keepsUnit s.commandReset :=
  (show s.keepsUnit (s.cleared .command) from ⟨rfl, rfl⟩).trans (State.startUp_keepsUnit _)

theorem State.powerOn_keepsUnit (s : State) : s.keepsUnit s.powerOn := by
  unfold State.powerOn
  dsimp only
  split
  · exact ⟨rfl, rfl⟩
  · exact State.startUp_keepsUnit { s.cleared .power with storeInterrupted := false }

theorem State.pinReleased_keepsUnit (s : State) : s.keepsUnit s.pinReleased := by
  unfold State.pinReleased
  split
  · exact State.startUp_keepsUnit { s with resetLow := false }
  · exact .refl s

theorem State.reply_keepsUnit (s : State) (c : Caller) (st : Status) (data : List Byte) : s.keepsUnit (s.reply c st data) :=
  State.emit_keepsUnit _ _ _ _

theorem State.eraseEnds_keepsUnit (s : State) : s.keepsUnit s.eraseEnds := by
  unfold State.eraseEnds
  split
  · split
    · exact s.reply_keepsUnit _ .ok []
    · exact .refl s
  · exact .refl s

theorem State.saveEnds_keepsUnit (s : State) : s.keepsUnit s.saveEnds := by
  unfold State.saveEnds
  split
  · split
    · rename_i image _
      have replied (c : Caller) : s.keepsUnit (State.reply { s with store := .valid image, storeOp := none } c .ok []) :=
        State.reply_keepsUnit _ _ _ _
      exact (replied _).trans (State.raise_keepsUnit _ _)
    · exact .refl s
  · exact .refl s

/-! ## Requests -/

theorem State.tableWrite_keepsUnit (s : State) (w : TableWrite) : s.keepsUnit (s.tableWrite w).1 := by
  cases w with
  | alertMask => exact ⟨rfl, rfl⟩
  | unknown => exact .refl s
  | _ =>
    simp only [State.tableWrite]
    split <;> exact ⟨rfl, rfl⟩

theorem State.enableRoute_keepsUnit (s : State) (r : Nat) : s.keepsUnit (s.enableRoute r) := by
  unfold State.enableRoute
  dsimp only
  split
  · exact .refl s
  · split
    · rw [State.afterHead_eq]
      exact ⟨rfl, rfl⟩
    · exact ⟨rfl, rfl⟩

theorem State.disableRoute_keepsUnit (s : State) (r : Nat) : s.keepsUnit (s.disableRoute r) := by
  unfold State.disableRoute
  split
  · rw [State.releaseTrain_eq, State.dissolve_eq]
    exact ⟨rfl, rfl⟩
  · exact .refl s

theorem State.reloadRoute_keepsUnit (s : State) (r : Nat) : s.keepsUnit (s.reloadRoute r) := by
  unfold State.reloadRoute
  dsimp only
  split
  · rw [State.retimeTours_eq]
    exact ⟨rfl, rfl⟩
  · exact ⟨rfl, rfl⟩

theorem State.halted_keepsUnit (s : State) : s.keepsUnit s.halted := by
  have dissolved (rs : List Nat) :
      s.keepsUnit (rs.foldl (fun x r => x.dissolve .halted r) { s with mode := .setup }) :=
    State.keepsUnit.foldl (fun x r => x.dissolve_keepsUnit .halted r) rs _
  exact dissolved _

theorem State.setTime_keepsUnit (s : State) (time : Nat) : s.keepsUnit (s.setTime time) := by
  unfold State.setTime
  dsimp only
  split
  · exact State.raise_keepsUnit { s with pt := time, timeUnset := false, lineState := s.lineState.atTime time } _
  · exact ⟨rfl, rfl⟩

/-- A request whose effect a check may withhold is answered either way. -/
theorem State.keepsUnit.answer {s t : State} {P : Prop} [Decidable P] (h : s.keepsUnit t) (c : Caller) (st : Status)
    (data : List Byte) : s.keepsUnit ((if P then t else s).reply c st data) := by
  split
  · exact h.trans (t.reply_keepsUnit c st data)
  · exact s.reply_keepsUnit c st data

theorem State.replyRead_keepsUnit (s : State) (c : Caller) (data : Option (List Byte)) :
    s.keepsUnit (s.replyRead c data) := by
  cases data with
  | none => exact s.reply_keepsUnit _ _ _
  | some d => exact s.reply_keepsUnit _ _ _

theorem State.doCommission_keepsUnit (s : State) (c : Caller) (station server : Nat) :
    s.keepsUnit (s.doCommission c station server) := by
  have replied := s.reply_keepsUnit c (commissionStatus station server) (be48 s.serial)
  unfold State.doCommission
  dsimp only
  split
  · exact replied
  · exact replied

theorem State.carryOut_keepsUnit (s : State) (c : Caller) (q : Request) : s.keepsUnit (s.carryOut c q) := by
  cases q with
  | identify => exact s.reply_keepsUnit c _ _
  | commission serial station server => exact s.doCommission_keepsUnit c station server
  | decommission => exact ⟨rfl, rfl⟩
  | start =>
    have started : s.keepsUnit (State.startRoutes { s with mode := .run }) := State.startRoutes_keepsUnit _
    exact started.trans (State.reply_keepsUnit _ c _ _)
  | halt => exact s.halted_keepsUnit.answer c _ _
  | timeSet t => exact (s.setTime_keepsUnit t).trans (State.reply_keepsUnit _ c _ _)
  | tableWrite w => exact (s.tableWrite_keepsUnit w).trans (State.reply_keepsUnit _ c _ _)
  | tableRead r => exact s.replyRead_keepsUnit c _
  | stateRead r => exact s.replyRead_keepsUnit c _
  | routeEnable r => exact (s.enableRoute_keepsUnit r).answer c _ _
  | routeDisable r => exact (s.disableRoute_keepsUnit r).answer c _ _
  | routeReload r => exact (s.reloadRoute_keepsUnit r).answer c _ _
  | resolve k r t d => exact (s.resolveRecord_keepsUnit k d).answer c _ _
  | alertAck f => exact State.reply_keepsUnit (s.ackFlags f) c _ _
  | save a =>
    unfold State.carryOut State.doSave
    dsimp only
    split
    · exact ⟨rfl, rfl⟩
    · exact s.reply_keepsUnit c _ _
  | restart =>
    unfold State.carryOut State.doRestart
    dsimp only
    split
    · exact s.reply_keepsUnit c _ _
    · exact s.commandReset_keepsUnit
  | causeRead => exact s.reply_keepsUnit c .ok _

theorem State.serve_keepsUnit (s : State) (src : Nat) (q : MaintReq) : s.keepsUnit (s.serve src q) := by
  unfold State.serve
  dsimp only
  split
  · exact s.reply_keepsUnit _ _ _
  · split
    · exact s.reply_keepsUnit _ _ _
    · split
      · exact s.carryOut_keepsUnit _ _
      · exact .refl s

/-! ## Received frames -/

theorem State.dispose_keepsUnit (s : State) (f : Frame) (t : Telegram) : s.keepsUnit (s.dispose f t) := by
  have forwarded := s.forward_keepsUnit f
  unfold State.dispose
  split
  · split
    · exact s.takePull_keepsUnit _ _
    · exact forwarded
  · exact forwarded.trans (State.takeReport_keepsUnit _ _)
  · exact forwarded.trans (State.takeLine_keepsUnit _ _)
  · split
    · exact s.takeTrainUp_keepsUnit _ _
    · exact forwarded
  · split
    · exact s.takePick_keepsUnit _ _
    · exact forwarded
  · split
    · exact s.serve_keepsUnit _ _
    · split
      · exact forwarded.trans (State.serve_keepsUnit _ _ _)
      · exact forwarded
  · exact forwarded

theorem State.disposeBare_keepsUnit (s : State) (f : Frame) (t : Telegram) : s.keepsUnit (s.disposeBare f t) := by
  have forwarded := s.forward_keepsUnit f
  unfold State.disposeBare
  split
  · split
    · exact forwarded.trans (State.serve_keepsUnit _ _ _)
    · exact forwarded
  · exact forwarded

theorem State.receive_keepsUnit (s : State) (f : Frame) (t : Telegram) : s.keepsUnit (s.receive f t) := by
  unfold State.receive
  split
  · exact .refl s
  · split
    · exact .refl s
    · split
      · exact (s.disposeBare_keepsUnit f t).trans (State.settleLamps_keepsUnit _)
      · exact (s.dispose_keepsUnit f t).trans (State.settleLamps_keepsUnit _)

theorem State.receiveBytes_keepsUnit (s : State) (bytes : List Byte) : s.keepsUnit (s.receiveBytes bytes) := by
  unfold State.receiveBytes
  split
  · exact s.receive_keepsUnit _ _
  · split
    · exact .refl s
    · exact s.raise_keepsUnit _

/-! ## Marks -/

theorem State.reachCutoff_keepsUnit (s : State) (r : Nat) : s.keepsUnit (s.reachCutoff r) := by
  unfold State.reachCutoff
  split
  · split
    · exact s.due_keepsUnit r
    · exact (s.modRoute_keepsUnit r _).trans (State.cutoff_keepsUnit _ r)
  · exact .refl s

theorem State.reachDue_keepsUnit (s : State) (r : Nat) : s.keepsUnit (s.reachDue r) := by
  rw [State.reachDue_eq]
  exact ⟨rfl, rfl⟩

theorem State.lapseOffer_keepsUnit (s : State) (r : Nat) : s.keepsUnit (s.lapseOffer r) := by
  unfold State.lapseOffer
  split <;> exact ⟨rfl, rfl⟩

theorem State.reachMaxTime_keepsUnit (s : State) : s.keepsUnit s.reachMaxTime := by
  unfold State.reachMaxTime
  split
  · exact .refl s
  · exact State.raise_keepsUnit { s with pt := ptMax } _

theorem State.transmissionEnds_keepsUnit (s : State) : s.keepsUnit s.transmissionEnds := by
  unfold State.transmissionEnds
  split
  · exact .refl s
  · split
    · exact s.commandReset_keepsUnit
    · exact ⟨s.arbitrate_serial, s.arbitrate_pending⟩

theorem State.reachReset_keepsUnit (s : State) : s.keepsUnit s.reachReset := by
  unfold State.reachReset
  split
  · exact s.commandReset_keepsUnit
  · exact .refl s

theorem State.pinLow_keepsUnit (s : State) : s.keepsUnit s.pinLow := by
  unfold State.pinLow
  split <;> exact ⟨rfl, rfl⟩

/-! ## Commands -/

/-- A command of the part itself: it is no telegram of one kind. -/
theorem State.exec_keepsUnit_of_event {c : Instr} {s t : State} (noTelegram : telegramFrame c = none)
    (h : exec c s = .next t) : s.keepsUnit t := by
  cases c <;> cases noTelegram <;> obtain rfl := Host.Outcome.next.inj h
  case ringInFrame bytes => exact s.receiveBytes_keepsUnit bytes
  case transmissionEnd => exact s.transmissionEnds_keepsUnit
  case cutoffReached r => exact (s.reachCutoff_keepsUnit r).trans (State.settleLamps_keepsUnit _)
  case departureDue r => exact (s.reachDue_keepsUnit r).trans (State.settleLamps_keepsUnit _)
  case offerTimerExpiry r => exact s.lapseOffer_keepsUnit r
  case confirmationTimerExpiry r => exact (s.confirmationExpires_keepsUnit r).trans (State.settleLamps_keepsUnit _)
  case silenceTimerExpiry r => exact (s.silenceExpires_keepsUnit r).trans (State.settleLamps_keepsUnit _)
  case eraseCompletion => exact s.eraseEnds_keepsUnit
  case ptSaturation => exact s.reachMaxTime_keepsUnit
  case saveCompletion => exact s.saveEnds_keepsUnit
  case commandReset => exact s.reachReset_keepsUnit
  case powerOn => exact s.powerOn_keepsUnit
  case resetNLow => exact s.pinLow_keepsUnit
  case resetNRelease => exact s.pinReleased_keepsUnit

/-- Settles O3: a telegram by what becomes of its frame, any other command by its event. -/
theorem serialAndQueueAreKept : Obligations.SerialAndQueueAreKept := by
  intro c s t h
  cases frame : telegramFrame c with
  | none => exact State.exec_keepsUnit_of_event frame h
  | some f =>
    obtain ⟨g, telegram, heard⟩ := State.exec_of_telegramFrame frame s
    obtain rfl := Host.Outcome.next.inj (heard.symm.trans h)
    exact s.receive_keepsUnit g telegram

end Sys2Proof.Machine
end
